-- ==== Sys2Proof/Word.lean ====
section
/-! DEFINITION. The two word types of the block: bytes, and the 16-bit quantities of the wire (00_scope.md R8). -/

namespace Sys2Proof

/-- A byte, "an integer in [0, 255]" (00_scope.md, section 5). -/
abbrev Byte := BitVec 8

/-- A 16-bit quantity: protocol address, length-or-value operand, transaction and protocol id, one `VBUF` entry (00_scope.md R8). -/
abbrev Word := BitVec 16

end Sys2Proof
end

