-- ==== Sys2Proof/Config.lean ====
section
/-! DEFINITION. What one implementation fixes (the open parameters of 00_scope.md R7) and the free values: constants without a body, so that
no proof can lean on one value of them. -/

namespace Sys2Proof.Config

/-- The two readings of `TCP_SW_VALUE_SRC` (00_scope.md R7, 92_eei_decisions.md D13): where `TCP_BUILD_REQ` takes the value bytes of
function codes 0x05 and 0x06 from. -/
inductive ValueSource where
  | data     -- `DATA`: the first two data bytes
  | length   -- `LENGTH`: the `length` operand, as the RTU layouts do
deriving DecidableEq, Repr, Inhabited

/-- Any natural number: it picks `IN_CAP` within its range. -/
opaque inCapChoice : Nat

/-- Any natural number: how far `OUT_CAP` lies above its minimum. -/
opaque outCapExtra : Nat

/-- Any natural number: how far `VAL_CAP` lies above its minimum. -/
opaque valCapExtra : Nat

/-- `IN_CAP`, the capacity of `IBUF` in bytes: every value with `255 <= IN_CAP <= 65533` and no other (00_scope.md R7).
DESIGN CHOICE (log 3): the parameter is left open. Safe. -/
@[irreducible] def inCap : Nat := inCapChoice % 65279 + 255

/-- `OUT_CAP`, the capacity of `OBUF` in bytes: every value `>= IN_CAP + 13` (00_scope.md R7; log 3). -/
@[irreducible] def outCap : Nat := inCap + 13 + outCapExtra

/-- `VAL_CAP`, the capacity of `VBUF` in entries: every value `>= 8 * IN_CAP` (00_scope.md R7; log 3). -/
@[irreducible] def valCap : Nat := 8 * inCap + valCapExtra

/-- `TCP_SW_VALUE_SRC`, left `OPEN` by 00_scope.md R7 (log 4). -/
opaque tcpSwValueSrc : ValueSource

/-- FREE VALUE: the byte of `IBUF` at an index the host has not written since the last reset, by how many resets there have been and the
index (20_memory.md R57; log 5). -/
opaque ibufUnwritten : Nat → Nat → Byte

/-- FREE VALUE: what a host read of `OBUF` at an index at or beyond `R_OLEN` returns, by the resets and the commands so far and the index
(10_state.md R19; log 6). -/
opaque obufResidue : Nat → Nat → Nat → Byte

/-- FREE VALUE: what a host read of `VBUF` at an index at or beyond `R_VCNT` returns (10_state.md R19; log 6). -/
opaque vbufResidue : Nat → Nat → Nat → Word

/-- Whether the host-side resolver takes `0X` for the prefix `0x`: the source does not say (91_not_in_source.md N19; log 17). -/
opaque resolverTakesUpperX : Bool

end Sys2Proof.Config
end

