-- ==== Sys2Proof/Syntax.lean ====
section
/-! DEFINITION. The commands of the block: one constructor per row of spec/opcode_table.json (30_encoding.md R60, R61, R76). -/

namespace Sys2Proof

/-- A command. `RTU_BUILD` and `TCP_BUILD_REQ` have one constructor per form, told apart by the operand register `OP_FC` at the moment `CMD`
is written (30_encoding.md R61); an illegal-opcode row of more than one opcode carries the opcode written. -/
inductive Instr where
  /-- `CRC16`, opcode 0x01 (40_crc.md R91). -/
  | crc16
  /-- `CRC_VALIDATE`, opcode 0x02 (40_crc.md R93). -/
  | crcValidate
  /-- `RTU_BUILD` with `OP_FC = 0x01`, read coils (41_rtu_build.md R101). -/
  | rtuBuildFc01
  /-- `RTU_BUILD` with `OP_FC = 0x02`, read discrete inputs (41_rtu_build.md R102). -/
  | rtuBuildFc02
  /-- `RTU_BUILD` with `OP_FC = 0x03`, read holding registers (41_rtu_build.md R103). -/
  | rtuBuildFc03
  /-- `RTU_BUILD` with `OP_FC = 0x04`, read input registers (41_rtu_build.md R104). -/
  | rtuBuildFc04
  /-- `RTU_BUILD` with `OP_FC = 0x05`, write single coil (41_rtu_build.md R105). -/
  | rtuBuildFc05
  /-- `RTU_BUILD` with `OP_FC = 0x06`, write single register (41_rtu_build.md R106). -/
  | rtuBuildFc06
  /-- `RTU_BUILD` with `OP_FC = 0x0F`, write multiple coils (41_rtu_build.md R107). -/
  | rtuBuildFc0F
  /-- `RTU_BUILD` with `OP_FC = 0x10`, write multiple registers (41_rtu_build.md R108). -/
  | rtuBuildFc10
  /-- `RTU_BUILD` with any other `OP_FC` (41_rtu_build.md R109). -/
  | rtuBuildUnsupported
  /-- `RTU_PARSE`, opcode 0x04 (42_rtu_parse.md R120). -/
  | rtuParse
  /-- `TCP_BUILD_REQ` with `OP_FC = 0x01`, read coils (43_tcp_build.md R131). -/
  | tcpBuildReqFc01
  /-- `TCP_BUILD_REQ` with `OP_FC = 0x02`, read discrete inputs (43_tcp_build.md R132). -/
  | tcpBuildReqFc02
  /-- `TCP_BUILD_REQ` with `OP_FC = 0x03`, read holding registers (43_tcp_build.md R133). -/
  | tcpBuildReqFc03
  /-- `TCP_BUILD_REQ` with `OP_FC = 0x04`, read input registers (43_tcp_build.md R134). -/
  | tcpBuildReqFc04
  /-- `TCP_BUILD_REQ` with `OP_FC = 0x05`, write single coil (43_tcp_build.md R136). -/
  | tcpBuildReqFc05
  /-- `TCP_BUILD_REQ` with `OP_FC = 0x06`, write single register (43_tcp_build.md R137). -/
  | tcpBuildReqFc06
  /-- `TCP_BUILD_REQ` with `OP_FC = 0x0F`, write multiple coils (43_tcp_build.md R138). -/
  | tcpBuildReqFc0F
  /-- `TCP_BUILD_REQ` with `OP_FC = 0x10`, write multiple registers (43_tcp_build.md R139). -/
  | tcpBuildReqFc10
  /-- `TCP_BUILD_REQ` with any other `OP_FC` (43_tcp_build.md R141). -/
  | tcpBuildReqUnsupported
  /-- `TCP_BUILD_RESP`, opcode 0x06 (43_tcp_build.md R140). -/
  | tcpBuildResp
  /-- `TCP_PARSE`, opcode 0x07 (44_tcp_parse.md R150). -/
  | tcpParse
  /-- `GET_BITS`, opcode 0x08 (45_typed_extraction.md R161). -/
  | getBits
  /-- `GET_REGS`, opcode 0x09 (45_typed_extraction.md R163). -/
  | getRegs
  /-- Opcode 0x00, not an operation (30_encoding.md R76). -/
  | illegalOp00
  /-- Opcodes 0x0A and 0x0B, not operations (30_encoding.md R76). -/
  | illegalOp0A0B (opcode : Byte)
  /-- Opcodes 0x0C to 0x0F, not operations (30_encoding.md R76). -/
  | illegalOp0C0F (opcode : Byte)
  /-- Opcodes 0x10 to 0x1F, not operations (30_encoding.md R76). -/
  | illegalOp101F (opcode : Byte)
  /-- Opcodes 0x20 to 0x3F, not operations (30_encoding.md R76). -/
  | illegalOp203F (opcode : Byte)
  /-- Opcodes 0x40 to 0x7F, not operations (30_encoding.md R76). -/
  | illegalOp407F (opcode : Byte)
  /-- Opcodes 0x80 to 0xFF, not operations (30_encoding.md R76). -/
  | illegalOp80FF (opcode : Byte)
deriving DecidableEq, Repr

end Sys2Proof
end

