-- ==== Sys2Proof/WellFormed.lean ====
section
/-! DEFINITION. Which terms of `Instr` are commands: the opcode an illegal-opcode row carries lies in that row (30_encoding.md R76). -/

namespace Sys2Proof

/-- The mask and the match of the opcode-table row a command belongs to (spec/opcode_table.json). -/
def Instr.row : Instr → Byte × Byte
  | .crc16 => (0xFF#8, 0x01#8)
  | .crcValidate => (0xFF#8, 0x02#8)
  | .rtuBuildFc01 => (0xFF#8, 0x03#8)
  | .rtuBuildFc02 => (0xFF#8, 0x03#8)
  | .rtuBuildFc03 => (0xFF#8, 0x03#8)
  | .rtuBuildFc04 => (0xFF#8, 0x03#8)
  | .rtuBuildFc05 => (0xFF#8, 0x03#8)
  | .rtuBuildFc06 => (0xFF#8, 0x03#8)
  | .rtuBuildFc0F => (0xFF#8, 0x03#8)
  | .rtuBuildFc10 => (0xFF#8, 0x03#8)
  | .rtuBuildUnsupported => (0xFF#8, 0x03#8)
  | .rtuParse => (0xFF#8, 0x04#8)
  | .tcpBuildReqFc01 => (0xFF#8, 0x05#8)
  | .tcpBuildReqFc02 => (0xFF#8, 0x05#8)
  | .tcpBuildReqFc03 => (0xFF#8, 0x05#8)
  | .tcpBuildReqFc04 => (0xFF#8, 0x05#8)
  | .tcpBuildReqFc05 => (0xFF#8, 0x05#8)
  | .tcpBuildReqFc06 => (0xFF#8, 0x05#8)
  | .tcpBuildReqFc0F => (0xFF#8, 0x05#8)
  | .tcpBuildReqFc10 => (0xFF#8, 0x05#8)
  | .tcpBuildReqUnsupported => (0xFF#8, 0x05#8)
  | .tcpBuildResp => (0xFF#8, 0x06#8)
  | .tcpParse => (0xFF#8, 0x07#8)
  | .getBits => (0xFF#8, 0x08#8)
  | .getRegs => (0xFF#8, 0x09#8)
  | .illegalOp00 => (0xFF#8, 0x00#8)
  | .illegalOp0A0B _ => (0xFE#8, 0x0A#8)
  | .illegalOp0C0F _ => (0xFC#8, 0x0C#8)
  | .illegalOp101F _ => (0xF0#8, 0x10#8)
  | .illegalOp203F _ => (0xE0#8, 0x20#8)
  | .illegalOp407F _ => (0xC0#8, 0x40#8)
  | .illegalOp80FF _ => (0x80#8, 0x80#8)

/-- A command byte lies in a row: masked, it is the row's match. -/
def inRow (row : Byte × Byte) (opcode : Byte) : Bool := opcode &&& row.1 == row.2

/-- A command is well formed when the opcode it carries, if any, lies in its row. -/
def Instr.wellFormed (i : Instr) : Bool :=
  match i with
  | .illegalOp0A0B op => inRow i.row op
  | .illegalOp0C0F op => inRow i.row op
  | .illegalOp101F op => inRow i.row op
  | .illegalOp203F op => inRow i.row op
  | .illegalOp407F op => inRow i.row op
  | .illegalOp80FF op => inRow i.row op
  | .crc16 | .crcValidate | .rtuBuildFc01 | .rtuBuildFc02 | .rtuBuildFc03 | .rtuBuildFc04 | .rtuBuildFc05 | .rtuBuildFc06
  | .rtuBuildFc0F | .rtuBuildFc10 | .rtuBuildUnsupported | .rtuParse | .tcpBuildReqFc01 | .tcpBuildReqFc02 | .tcpBuildReqFc03
  | .tcpBuildReqFc04 | .tcpBuildReqFc05 | .tcpBuildReqFc06 | .tcpBuildReqFc0F | .tcpBuildReqFc10 | .tcpBuildReqUnsupported
  | .tcpBuildResp | .tcpParse | .getBits | .getRegs | .illegalOp00 => true

end Sys2Proof
end

