-- ==== Sys2Proof/Decode.lean ====
section
/-! DEFINITION. The decoder, total on any bytes and any value of `OP_FC` (30_encoding.md R60, R61, R76), and the encoder written from the same
opcode map. -/

namespace Sys2Proof

/-! The opcode map of 30_encoding.md R61. -/

def opcodeCrc16 : Byte := 0x01#8
def opcodeCrcValidate : Byte := 0x02#8
def opcodeRtuBuild : Byte := 0x03#8
def opcodeRtuParse : Byte := 0x04#8
def opcodeTcpBuildReq : Byte := 0x05#8
def opcodeTcpBuildResp : Byte := 0x06#8
def opcodeTcpParse : Byte := 0x07#8
def opcodeGetBits : Byte := 0x08#8
def opcodeGetRegs : Byte := 0x09#8

/-- The form of `RTU_BUILD` that the value of `OP_FC` selects (41_rtu_build.md R100 to R109). -/
def decodeRtuForm (fc : Byte) : Instr :=
  if fc = 0x01#8 then .rtuBuildFc01
  else if fc = 0x02#8 then .rtuBuildFc02
  else if fc = 0x03#8 then .rtuBuildFc03
  else if fc = 0x04#8 then .rtuBuildFc04
  else if fc = 0x05#8 then .rtuBuildFc05
  else if fc = 0x06#8 then .rtuBuildFc06
  else if fc = 0x0F#8 then .rtuBuildFc0F
  else if fc = 0x10#8 then .rtuBuildFc10
  else .rtuBuildUnsupported

/-- The form of `TCP_BUILD_REQ` that the value of `OP_FC` selects (43_tcp_build.md R130 to R139, R141). -/
def decodeTcpForm (fc : Byte) : Instr :=
  if fc = 0x01#8 then .tcpBuildReqFc01
  else if fc = 0x02#8 then .tcpBuildReqFc02
  else if fc = 0x03#8 then .tcpBuildReqFc03
  else if fc = 0x04#8 then .tcpBuildReqFc04
  else if fc = 0x05#8 then .tcpBuildReqFc05
  else if fc = 0x06#8 then .tcpBuildReqFc06
  else if fc = 0x0F#8 then .tcpBuildReqFc0F
  else if fc = 0x10#8 then .tcpBuildReqFc10
  else .tcpBuildReqUnsupported

/-- The command that the byte `op`, written to `CMD` while `OP_FC` holds `fc`, starts: "every one of the 256 command values matches the rows
of exactly one operation" (30_encoding.md R61), so it is total. -/
def decodeOpcode (fc op : Byte) : Instr :=
  if op = opcodeCrc16 then .crc16
  else if op = opcodeCrcValidate then .crcValidate
  else if op = opcodeRtuBuild then decodeRtuForm fc
  else if op = opcodeRtuParse then .rtuParse
  else if op = opcodeTcpBuildReq then decodeTcpForm fc
  else if op = opcodeTcpBuildResp then .tcpBuildResp
  else if op = opcodeTcpParse then .tcpParse
  else if op = opcodeGetBits then .getBits
  else if op = opcodeGetRegs then .getRegs
  else if op = 0x00#8 then .illegalOp00
  else if inRow (0xFE#8, 0x0A#8) op then .illegalOp0A0B op
  else if inRow (0xFC#8, 0x0C#8) op then .illegalOp0C0F op
  else if inRow (0xF0#8, 0x10#8) op then .illegalOp101F op
  else if inRow (0xE0#8, 0x20#8) op then .illegalOp203F op
  else if inRow (0xC0#8, 0x40#8) op then .illegalOp407F op
  else .illegalOp80FF op

/-- Why bytes are no command. -/
inductive DecodeError where
  /-- There is no byte to read: a command is one byte (30_encoding.md R60). -/
  | noCommandByte
deriving DecidableEq, Repr

/-- The decoder: one command byte (30_encoding.md R60), read while `OP_FC` holds `fc`, and the bytes after it. -/
def decode (fc : Byte) (bytes : List Byte) : Except DecodeError (Instr × List Byte) :=
  match bytes with
  | [] => .error .noCommandByte
  | op :: rest => .ok (decodeOpcode fc op, rest)

/-- The opcode of a command (30_encoding.md R61, R76). -/
def opcodeOf : Instr → Byte
  | .crc16 => opcodeCrc16
  | .crcValidate => opcodeCrcValidate
  | .rtuBuildFc01 | .rtuBuildFc02 | .rtuBuildFc03 | .rtuBuildFc04 | .rtuBuildFc05 | .rtuBuildFc06 | .rtuBuildFc0F | .rtuBuildFc10
  | .rtuBuildUnsupported => opcodeRtuBuild
  | .rtuParse => opcodeRtuParse
  | .tcpBuildReqFc01 | .tcpBuildReqFc02 | .tcpBuildReqFc03 | .tcpBuildReqFc04 | .tcpBuildReqFc05 | .tcpBuildReqFc06
  | .tcpBuildReqFc0F | .tcpBuildReqFc10 | .tcpBuildReqUnsupported => opcodeTcpBuildReq
  | .tcpBuildResp => opcodeTcpBuildResp
  | .tcpParse => opcodeTcpParse
  | .getBits => opcodeGetBits
  | .getRegs => opcodeGetRegs
  | .illegalOp00 => 0x00#8
  | .illegalOp0A0B op | .illegalOp0C0F op | .illegalOp101F op | .illegalOp203F op | .illegalOp407F op | .illegalOp80FF op => op

/-- The encoder: a command is its one opcode byte (30_encoding.md R60). -/
def encode (i : Instr) : List Byte := [opcodeOf i]

/-- The eight supported function codes (00_scope.md R2, 30_encoding.md R63). -/
def supportedFunctionCodes : List Byte := [0x01#8, 0x02#8, 0x03#8, 0x04#8, 0x05#8, 0x06#8, 0x0F#8, 0x10#8]

/-- `OP_FC = fc` selects the row of this command: the table's `fields.OP_FC` (30_encoding.md R61). -/
def selectedBy (fc : Byte) : Instr → Bool
  | .rtuBuildFc01 | .tcpBuildReqFc01 => fc == 0x01#8
  | .rtuBuildFc02 | .tcpBuildReqFc02 => fc == 0x02#8
  | .rtuBuildFc03 | .tcpBuildReqFc03 => fc == 0x03#8
  | .rtuBuildFc04 | .tcpBuildReqFc04 => fc == 0x04#8
  | .rtuBuildFc05 | .tcpBuildReqFc05 => fc == 0x05#8
  | .rtuBuildFc06 | .tcpBuildReqFc06 => fc == 0x06#8
  | .rtuBuildFc0F | .tcpBuildReqFc0F => fc == 0x0F#8
  | .rtuBuildFc10 | .tcpBuildReqFc10 => fc == 0x10#8
  | .rtuBuildUnsupported | .tcpBuildReqUnsupported => !supportedFunctionCodes.contains fc
  | .crc16 | .crcValidate | .rtuParse | .tcpBuildResp | .tcpParse | .getBits | .getRegs | .illegalOp00 | .illegalOp0A0B _
  | .illegalOp0C0F _ | .illegalOp101F _ | .illegalOp203F _ | .illegalOp407F _ | .illegalOp80FF _ => true

/-- Does `OP_FC` choose among the rows of this opcode? -/
def hasForms (op : Byte) : Bool := op == opcodeRtuBuild || op == opcodeTcpBuildReq

/-- The command byte of a table word: its bits 7:0 (30_encoding.md R60). Bits at or above `nbits` count as zero. -/
def tableWordOpcode (nbits w : Nat) : Byte := BitVec.ofNat 8 (w % 2 ^ nbits)

/-- The value of `OP_FC` a table word stands for, its bits 15:8; a row of the table has 8 bits, so there it is 0, the value after reset.
DESIGN CHOICE (log 2): `OP_FC` is no part of the command word. -/
def tableWordFc (nbits w : Nat) : Byte := BitVec.ofNat 8 (w % 2 ^ nbits / 256)

/-- The instruction the decoder reads from a table word: its command byte, with `OP_FC` as `tableWordFc` (log 2). -/
def decodeTableWord (nbits w : Nat) : Option Instr :=
  if nbits < 8 then none
  else
    match decode (tableWordFc nbits w) [tableWordOpcode nbits w] with
    | .ok (i, _) => some i
    | .error _ => none

end Sys2Proof
end

