-- ==== Sys2Proof/Machine/State.lean ====
section
/-! DEFINITION. The state of the block as plain data: 10_state.md R10 (eight operand registers, `CMD`, thirteen result registers, three
buffers), and the model's own fields for the host's moves and answers and for the free values. -/

namespace Sys2Proof.Machine

/-- The outcomes `STATUS` can hold (30_encoding.md R75). The kind is an enumeration, the number only its register encoding
(60_exceptions.md R191); `malformedHeader` and `readOnlyRegister` are reserved and never produced by the block. -/
inductive Status where
  | ok
  | unsupportedFunctionCode
  | invalidDataLength
  | frameTooShort
  | checksumMismatch
  | wrongResponseKind
  | malformedHeader
  | readOnlyRegister
  | illegalOp
  | range
deriving DecidableEq, Repr

/-- The eight operand registers (10_state.md R11). -/
structure Operands where
  station : Byte      -- OP_STATION
  fc : Byte           -- OP_FC
  addr : Word         -- OP_ADDR
  lv : Word           -- OP_LV
  tid : Word          -- OP_TID
  pid : Word          -- OP_PID
  dpres : BitVec 1    -- OP_DPRES
  ilen : Word         -- OP_ILEN
deriving DecidableEq, Repr

/-- The thirteen result registers (10_state.md R14). -/
structure Results where
  status : Status     -- STATUS
  flags : Byte        -- R_FLAGS
  station : Byte      -- R_STATION
  fc : Byte           -- R_FC
  tid : Word          -- R_TID
  pid : Word          -- R_PID
  len : Word          -- R_LEN
  addr : Word         -- R_ADDR
  qty : Word          -- R_QTY
  crc : Word          -- R_CRC
  olen : BitVec 32    -- R_OLEN
  vcnt : BitVec 32    -- R_VCNT
  disp : BitVec 32    -- R_DISP
deriving DecidableEq, Repr

/-- Every operand register zero (10_state.md R25). -/
def Operands.zero : Operands :=
  { station := 0#8, fc := 0#8, addr := 0#16, lv := 0#16, tid := 0#16, pid := 0#16, dpres := 0#1, ilen := 0#16 }

/-- Every result register zero, `STATUS` at its code 0x00 `OK` (10_state.md R25, 60_exceptions.md R196). -/
def Results.cleared : Results :=
  { status := .ok, flags := 0#8, station := 0#8, fc := 0#8, tid := 0#16, pid := 0#16, len := 0#16, addr := 0#16, qty := 0#16,
    crc := 0#16, olen := 0#32, vcnt := 0#32, disp := 0#32 }

/-- A buffer: the units that have been written, by rising index. An index that is not listed holds no unit here; what is read there is a free
value (log 5, log 6). With bytes for units it is a list of `Host.Cell`. -/
abbrev Memory (α : Type) := List (Nat × α)

/-- The three buffers, as spaces of their own (20_memory.md R40). -/
inductive Space where
  | ibuf
  | obuf
  | vbuf
deriving DecidableEq, Repr

/-- One move of the host (20_memory.md R52; the writes to `OBUF` and `VBUF` are those of 10_state.md R22, R23, R28). Register numbers,
indexes and register values are numbers, so that a move out of range can be written down and refused (log 8). -/
inductive HostMove where
  /-- `HostWrite(reg, v)`: register 0x08 is `CMD`, and writing it is `HostStart`. -/
  | writeReg (number value : Nat)
  /-- `HostWriteIBUF(i, b)`. -/
  | writeIbuf (index : Nat) (b : Byte)
  /-- A host write to `OBUF`, which is read only to the host. -/
  | writeObuf (index : Nat) (b : Byte)
  /-- A host write to `VBUF`, which is read only to the host. -/
  | writeVbuf (index : Nat) (v : Word)
  /-- `HostRead(reg)`. -/
  | readReg (number : Nat)
  /-- `HostReadIBUF(i)`. -/
  | readIbuf (index : Nat)
  /-- `HostReadOBUF(i)`. -/
  | readObuf (index : Nat)
  /-- `HostReadVBUF(i)`. -/
  | readVbuf (index : Nat)
  /-- `HostReset`. -/
  | reset
deriving DecidableEq, Repr

/-- The state. -/
structure State where
  /-- The operand registers, 0x00 to 0x07 (10_state.md R11). -/
  op : Operands
  /-- `CMD`, 0x08 (10_state.md R20). -/
  cmd : Byte
  /-- The result registers, 0x10 to 0x1C (10_state.md R14). -/
  res : Results
  /-- `IBUF` (10_state.md R21). -/
  ibuf : Memory Byte
  /-- `OBUF` (10_state.md R22). -/
  obuf : Memory Byte
  /-- `VBUF` (10_state.md R23). -/
  vbuf : Memory Word
  /-- The model's own: the host's pending moves, oldest first (log 1). -/
  moves : List HostMove
  /-- The model's own: what the host's reads returned, oldest first (log 10). -/
  answers : List (BitVec 32)
  /-- The model's own: the resets so far, a key of the free values (log 5, log 6). -/
  resetCount : Nat
  /-- The model's own: the commands so far, a key of the free values (log 6). -/
  commandCount : Nat
deriving DecidableEq, Repr

/-- There is no fault: "No error kind in this core is fatal"; every error of the block is a status code in a next state
(60_exceptions.md R196, R197). -/
inductive Fault where
deriving DecidableEq, Repr

/-- Why the model gives a host move no meaning: the host errors that 10_state.md R28 says a model should refuse (log 8). All safe. -/
inductive Refusal where
  /-- An instruction without a meaning: raised by no arm of `exec`. Safe. -/
  | notModelled (mnemonic : String)
  /-- A host access to a register number that is not in 10_state.md R11, R14, R20; raised by `hostAccess` (R28). Safe. -/
  | reservedRegister (number : Nat)
  /-- A host write of a value that does not fit the register's width; raised by `hostAccess` (R28). Safe. -/
  | valueTooWide (number value : Nat)
  /-- A buffer access at an index at or beyond the buffer's capacity; raised by `hostAccess` (R28). Safe. -/
  | beyondCapacity (space : Space) (index : Nat)
deriving DecidableEq, Repr

/-- The machine right after reset (10_state.md R25, 70_reset_and_hazards.md R210): every register zero, nothing listed in a buffer. The
model's own fields start empty or at 0 (DESIGN CHOICE, log 7). -/
def State.reset : State :=
  { op := Operands.zero, cmd := 0x00#8, res := Results.cleared, ibuf := [], obuf := [], vbuf := [], moves := [], answers := [],
    resetCount := 0, commandCount := 0 }

end Sys2Proof.Machine
end

