-- ==== Sys2Proof/Machine/Ops.lean ====
section
/-! DEFINITION. The named operations every meaning is built from: byte order (20_memory.md R41), slices, the buffers, and the start, the
error entry and the end of a command (60_exceptions.md R196 to R198). -/

namespace Sys2Proof.Machine

/-! Byte order and arithmetic (00_scope.md, section 5, and R9). -/

/-- `hi8(v) = v[15:8]`. -/
def hi8 (v : Word) : Byte := v.extractLsb' 8 8

/-- `lo8(v) = v[7:0]`. -/
def lo8 (v : Word) : Byte := v.extractLsb' 0 8

/-- `be16(v)`: the more significant byte first (20_memory.md R41). -/
def be16 (v : Word) : List Byte := [hi8 v, lo8 v]

/-- `u16be(b0, b1) = b0 * 256 + b1` (20_memory.md R41). -/
def u16be (b0 b1 : Byte) : Word := b0 ++ b1

/-- `ceil_div(a, b)` for `b > 0`. -/
def ceilDiv (a b : Nat) : Nat := (a + b - 1) / b

/-- The half-open slice `s[a..b]`, empty when `a >= b`. -/
def slice {α : Type} (s : List α) (a b : Nat) : List α := (s.take b).drop a

/-! The buffers. -/

/-- The unit a buffer lists at an index. -/
def Memory.read {α : Type} : Memory α → Nat → Option α
  | [], _ => none
  | (k, v) :: m, i => if k = i then some v else Memory.read m i

/-- `MemWrite` of one unit; the list stays sorted by index. -/
def Memory.write {α : Type} : Memory α → Nat → α → Memory α
  | [], i, v => [(i, v)]
  | (k, w) :: m, i, v =>
    if i < k then (i, v) :: (k, w) :: m
    else if i = k then (i, v) :: m
    else (k, w) :: Memory.write m i v

/-- `MemWrite(space, i, n, s)` with `n = len(s)` (00_scope.md, section 6). -/
def Memory.writeSeq {α : Type} (m : Memory α) (i : Nat) : List α → Memory α
  | [] => m
  | v :: vs => Memory.writeSeq (Memory.write m i v) (i + 1) vs

/-- The canonical form of a buffer: strictly rising indexes. (An unlisted index reads as no unit of the list, so no entry equals it.) -/
def Memory.wf {α : Type} : Memory α → Bool
  | [] => true
  | [_] => true
  | (k, _) :: (l, w) :: m => decide (k < l) && Memory.wf ((l, w) :: m)

/-- Every listed index lies below the capacity. -/
def Memory.within {α : Type} (cap : Nat) (m : Memory α) : Bool := m.all fun c => decide (c.1 < cap)

/-! The start, the error entry and the end of a command. -/

/-- `clear_results()`: every result register is set to 0 (60_exceptions.md R196). -/
def clearResults (s : State) : State := { s with res := Results.cleared }

/-- What every write of an opcode to `CMD` does before anything else: it stores the opcode in `CMD` (10_state.md R20) and clears the results
(60_exceptions.md R196). The count of commands is the model's own (log 6). -/
def startCommand (opcode : Byte) (s : State) : State :=
  { clearResults s with cmd := opcode, commandCount := s.commandCount + 1 }

/-- Error entry, `raise <Kind>` (60_exceptions.md R196): `STATUS` is the kind, every other result register is at its cleared value, nothing
else changes. There is no return beside it: "There is nothing to return from" (R197). -/
def raise (kind : Status) (s : State) : State := { s with res := { Results.cleared with status := kind } }

/-- Write result registers. -/
def setResults (f : Results → Results) (s : State) : State := { s with res := f s.res }

/-- `emit(s)`: `MemWrite(OBUF, 0, len(s), s); x[R_OLEN] <- len(s)` (00_scope.md, section 6). -/
def emit (bytes : List Byte) (s : State) : State :=
  { s with obuf := Memory.writeSeq s.obuf 0 bytes, res := { s.res with olen := BitVec.ofNat 32 bytes.length } }

/-- `emitv(w)`: `MemWrite(VBUF, 0, len(w), w); x[R_VCNT] <- len(w)` (00_scope.md, section 6). -/
def emitv (entries : List Word) (s : State) : State :=
  { s with vbuf := Memory.writeSeq s.vbuf 0 entries, res := { s.res with vcnt := BitVec.ofNat 32 entries.length } }

/-- A whole operation: start, then `RANGE` for `OP_ILEN > IN_CAP` before any other test (60_exceptions.md R194), then the body on the state
with cleared results; an error of the body enters by `raise`. -/
def runOperation (opcode : Byte) (body : State → Except Status State) (s : State) : State :=
  if s.op.ilen.toNat ≤ Config.inCap then
    match body (startCommand opcode s) with
    | .ok t => t
    | .error kind => raise kind (startCommand opcode s)
  else raise .range (startCommand opcode s)

/-- An operation as the outcome of a step: it always ends in a next state (60_exceptions.md R197, 70_reset_and_hazards.md R216). -/
def operation (opcode : Byte) (body : State → Except Status State) (s : State) : Host.Outcome State Fault Refusal :=
  .next (runOperation opcode body s)

/-- Reset (70_reset_and_hazards.md R210): every register at the value of 10_state.md R25, the buffers' contents unspecified. The host's moves
and answers are not the block's and stay (log 7). -/
def hostReset (s : State) : State :=
  { State.reset with moves := s.moves, answers := s.answers, resetCount := s.resetCount + 1, commandCount := s.commandCount }

end Sys2Proof.Machine
end

