-- ==== Sys2Proof/Machine/Illegal.lean ====
section
/-! DEFINITION. The opcodes that are not operations (30_encoding.md R76). -/

namespace Sys2Proof.Machine

/-- Writing an opcode that is not an operation: `CMD` stores it, the results are cleared, `STATUS` becomes `ILLEGAL_OP`, and nothing else is
looked at (30_encoding.md R76, 60_exceptions.md R194). -/
def illegalOpcode (opcode : Byte) (s : State) : Host.Outcome State Fault Refusal := .next (raise .illegalOp (startCommand opcode s))

/-- Opcode 0x00 (30_encoding.md R76: not a no-op). -/
def execIllegalOp00 (s : State) : Host.Outcome State Fault Refusal := illegalOpcode 0x00#8 s

/-- Opcodes 0x0A and 0x0B (30_encoding.md R76). -/
def execIllegalOp0A0B (opcode : Byte) (s : State) : Host.Outcome State Fault Refusal := illegalOpcode opcode s

/-- Opcodes 0x0C to 0x0F (30_encoding.md R76). -/
def execIllegalOp0C0F (opcode : Byte) (s : State) : Host.Outcome State Fault Refusal := illegalOpcode opcode s

/-- Opcodes 0x10 to 0x1F (30_encoding.md R76). -/
def execIllegalOp101F (opcode : Byte) (s : State) : Host.Outcome State Fault Refusal := illegalOpcode opcode s

/-- Opcodes 0x20 to 0x3F (30_encoding.md R76). -/
def execIllegalOp203F (opcode : Byte) (s : State) : Host.Outcome State Fault Refusal := illegalOpcode opcode s

/-- Opcodes 0x40 to 0x7F (30_encoding.md R76). -/
def execIllegalOp407F (opcode : Byte) (s : State) : Host.Outcome State Fault Refusal := illegalOpcode opcode s

/-- Opcodes 0x80 to 0xFF (30_encoding.md R76). -/
def execIllegalOp80FF (opcode : Byte) (s : State) : Host.Outcome State Fault Refusal := illegalOpcode opcode s

end Sys2Proof.Machine
end

