-- ==== Sys2Proof/Machine/Flags.lean ====
section
/-! DEFINITION. The two flags of `R_FLAGS` (10_state.md R13, R16) and the encoding of `STATUS` (30_encoding.md R75). -/

namespace Sys2Proof.Machine

/-- A Boolean as one bit of a byte. -/
def boolBit (b : Bool) : Byte := if b then 1#8 else 0#8

/-- `x[R_FLAGS].VALID`, bit 0 (10_state.md R16). -/
def flagValid (flags : Byte) : Bool := flags.getLsbD 0

/-- `x[R_FLAGS].TRUNC`, bit 1 (10_state.md R16). -/
def flagTrunc (flags : Byte) : Bool := flags.getLsbD 1

/-- `x[R_FLAGS].VALID <- b`; the other bits stay. -/
def setValid (b : Bool) (flags : Byte) : Byte := (flags &&& 0xFE#8) ||| boolBit b

/-- `x[R_FLAGS].TRUNC <- b`; the other bits stay. -/
def setTrunc (b : Bool) (flags : Byte) : Byte := (flags &&& 0xFD#8) ||| (boolBit b <<< 1)

/-- The number of a status code (30_encoding.md R75). -/
def statusCode : Status → Byte
  | .ok => 0x00#8
  | .unsupportedFunctionCode => 0x01#8
  | .invalidDataLength => 0x02#8
  | .frameTooShort => 0x03#8
  | .checksumMismatch => 0x04#8
  | .wrongResponseKind => 0x05#8
  | .malformedHeader => 0x06#8
  | .readOnlyRegister => 0x07#8
  | .illegalOp => 0x80#8
  | .range => 0x81#8

end Sys2Proof.Machine
end

