-- ==== Sys2Proof/Machine/Operands.lean ====
section
/-! DEFINITION. The register file as the host numbers it (10_state.md R11, R14, R20; 20_memory.md R49), and every form of operand an operation
reads: registers, the input bytes, the optional data. -/

namespace Sys2Proof.Machine

/-- The registers by name. -/
inductive Reg where
  | opStation | opFc | opAddr | opLv | opTid | opPid | opDpres | opIlen
  | cmd
  | status | rFlags | rStation | rFc | rTid | rPid | rLen | rAddr | rQty | rCrc | rOlen | rVcnt | rDisp
deriving DecidableEq, Repr

/-- A register's number (10_state.md R11, R14, R20). -/
def regNumber : Reg → Nat
  | .opStation => 0x00 | .opFc => 0x01 | .opAddr => 0x02 | .opLv => 0x03 | .opTid => 0x04 | .opPid => 0x05 | .opDpres => 0x06
  | .opIlen => 0x07
  | .cmd => 0x08
  | .status => 0x10 | .rFlags => 0x11 | .rStation => 0x12 | .rFc => 0x13 | .rTid => 0x14 | .rPid => 0x15 | .rLen => 0x16
  | .rAddr => 0x17 | .rQty => 0x18 | .rCrc => 0x19 | .rOlen => 0x1A | .rVcnt => 0x1B | .rDisp => 0x1C

/-- The register of a number; numbers 0x09 to 0x0F and 0x1D upward are reserved (10_state.md R28, 20_memory.md R49). -/
def regOfNumber (n : Nat) : Option Reg :=
  match n with
  | 0x00 => some .opStation | 0x01 => some .opFc | 0x02 => some .opAddr | 0x03 => some .opLv | 0x04 => some .opTid
  | 0x05 => some .opPid | 0x06 => some .opDpres | 0x07 => some .opIlen
  | 0x08 => some .cmd
  | 0x10 => some .status | 0x11 => some .rFlags | 0x12 => some .rStation | 0x13 => some .rFc | 0x14 => some .rTid
  | 0x15 => some .rPid | 0x16 => some .rLen | 0x17 => some .rAddr | 0x18 => some .rQty | 0x19 => some .rCrc
  | 0x1A => some .rOlen | 0x1B => some .rVcnt | 0x1C => some .rDisp
  | _ => none

/-- A register's width in bits (10_state.md R11, R14, R20). -/
def regWidth : Reg → Nat
  | .opStation | .opFc => 8
  | .opAddr | .opLv | .opTid | .opPid | .opIlen => 16
  | .opDpres => 1
  | .cmd => 8
  | .status | .rFlags | .rStation | .rFc => 8
  | .rTid | .rPid | .rLen | .rAddr | .rQty | .rCrc => 16
  | .rOlen | .rVcnt | .rDisp => 32

/-- A host read of a register, zero extended; it has no side effect (20_memory.md R48). -/
def readRegister (s : State) : Reg → BitVec 32
  | .opStation => s.op.station.setWidth 32
  | .opFc => s.op.fc.setWidth 32
  | .opAddr => s.op.addr.setWidth 32
  | .opLv => s.op.lv.setWidth 32
  | .opTid => s.op.tid.setWidth 32
  | .opPid => s.op.pid.setWidth 32
  | .opDpres => s.op.dpres.setWidth 32
  | .opIlen => s.op.ilen.setWidth 32
  | .cmd => s.cmd.setWidth 32
  | .status => (statusCode s.res.status).setWidth 32
  | .rFlags => s.res.flags.setWidth 32
  | .rStation => s.res.station.setWidth 32
  | .rFc => s.res.fc.setWidth 32
  | .rTid => s.res.tid.setWidth 32
  | .rPid => s.res.pid.setWidth 32
  | .rLen => s.res.len.setWidth 32
  | .rAddr => s.res.addr.setWidth 32
  | .rQty => s.res.qty.setWidth 32
  | .rCrc => s.res.crc.setWidth 32
  | .rOlen => s.res.olen
  | .rVcnt => s.res.vcnt
  | .rDisp => s.res.disp

/-- A host write of a value that fits: an operand register takes it, `CMD` stores it (the command it starts is the step's), a write to a
result register "is ignored and changes nothing" (10_state.md R14, R20, R28; log 9). -/
def writeRegister (r : Reg) (v : Nat) (s : State) : State :=
  match r with
  | .opStation => { s with op := { s.op with station := BitVec.ofNat 8 v } }
  | .opFc => { s with op := { s.op with fc := BitVec.ofNat 8 v } }
  | .opAddr => { s with op := { s.op with addr := BitVec.ofNat 16 v } }
  | .opLv => { s with op := { s.op with lv := BitVec.ofNat 16 v } }
  | .opTid => { s with op := { s.op with tid := BitVec.ofNat 16 v } }
  | .opPid => { s with op := { s.op with pid := BitVec.ofNat 16 v } }
  | .opDpres => { s with op := { s.op with dpres := BitVec.ofNat 1 v } }
  | .opIlen => { s with op := { s.op with ilen := BitVec.ofNat 16 v } }
  | .cmd => { s with cmd := BitVec.ofNat 8 v }
  | .status | .rFlags | .rStation | .rFc | .rTid | .rPid | .rLen | .rAddr | .rQty | .rCrc | .rOlen | .rVcnt | .rDisp => s

/-- The byte of `IBUF` at an index: what the host last wrote there, else a free value (20_memory.md R57; log 5). -/
def ibufByte (s : State) (i : Nat) : Byte := (Memory.read s.ibuf i).getD (Config.ibufUnwritten s.resetCount i)

/-- The byte a host read of `OBUF` returns: the operation's result below `R_OLEN`, else a free value (10_state.md R19; log 6). -/
def obufByte (s : State) (i : Nat) : Byte :=
  if i < s.res.olen.toNat then (Memory.read s.obuf i).getD (Config.obufResidue s.resetCount s.commandCount i)
  else Config.obufResidue s.resetCount s.commandCount i

/-- The entry a host read of `VBUF` returns: the operation's result below `R_VCNT`, else a free value (10_state.md R19; log 6). -/
def vbufEntry (s : State) (i : Nat) : Word :=
  if i < s.res.vcnt.toNat then (Memory.read s.vbuf i).getD (Config.vbufResidue s.resetCount s.commandCount i)
  else Config.vbufResidue s.resetCount s.commandCount i

/-- `in`: `MemRead(IBUF, 0, x[OP_ILEN])`, the operation's input bytes (00_scope.md, section 6). -/
def inputBytes (s : State) : List Byte := (List.range s.op.ilen.toNat).map (ibufByte s)

/-- The byte sequence result: `OBUF[0 .. x[R_OLEN]-1]`. -/
def outputBytes (s : State) : List Byte := (List.range s.res.olen.toNat).map (obufByte s)

/-- The typed result: `VBUF[0 .. x[R_VCNT]-1]`. -/
def outputEntries (s : State) : List Word := (List.range s.res.vcnt.toNat).map (vbufEntry s)

/-- `data : Option<bytes>`: absent when `OP_DPRES` is 0, else the input bytes (30_encoding.md R62). -/
def dataOperand (s : State) : Option (List Byte) := if s.op.dpres = 1#1 then some (inputBytes s) else none

/-- `dlen`: `x[OP_ILEN]` when `x[OP_DPRES] = 1`, else 0: absent data has length 0 (43_tcp_build.md R130, R142). -/
def dataLength (s : State) : Nat := if s.op.dpres = 1#1 then s.op.ilen.toNat else 0

end Sys2Proof.Machine
end

