-- ==== Sys2Proof/Machine/Crc.lean ====
section
/-! DEFINITION. The checksum (40_crc.md): the function `crc16` and the operations `CRC16` and `CRC_VALIDATE`. -/

namespace Sys2Proof.Machine

/-- The polynomial constant 0xA001 (40_crc.md R90). -/
def crcPolynomial : Word := 0xA001#16

/-- The initial value 0xFFFF (40_crc.md R90). -/
def crcInitial : Word := 0xFFFF#16

/-- One of the eight shifts: logical right, then the polynomial when the bit shifted out is 1 (40_crc.md R90; log 11). -/
def crcShift (c : Word) : Word := if c.getLsbD 0 then (c >>> 1) ^^^ crcPolynomial else c >>> 1

/-- `n` shifts in a row. -/
def crcShifts : Nat → Word → Word
  | 0, c => c
  | n + 1, c => crcShifts n (crcShift c)

/-- One byte: exclusive-or into the low 8 bits, then eight shifts (40_crc.md R90). -/
def crcByte (c : Word) (b : Byte) : Word := crcShifts 8 (c ^^^ b.setWidth 16)

/-- The final CRC register value after the bytes in wire order: what `R_CRC` holds (40_crc.md R90, 10_state.md R17). -/
def crcRegister (bytes : List Byte) : Word := bytes.foldl crcByte crcInitial

/-- `crc16(b)`, the pair `(low_byte, high_byte)` (40_crc.md R90). -/
def crc16 (bytes : List Byte) : Byte × Byte := (lo8 (crcRegister bytes), hi8 (crcRegister bytes))

/-- The pair in the order it is appended, low byte first (20_memory.md R42). -/
def crcBytes (bytes : List Byte) : List Byte := [(crc16 bytes).1, (crc16 bytes).2]

/-- The pair as one 16-bit number, `hi * 256 + lo` (10_state.md R17). -/
def crcWord (bytes : List Byte) : Word := u16be (crc16 bytes).2 (crc16 bytes).1

/-- `crc_ok(f)`: the CRC of all but the last two bytes against the last two bytes, low byte first (40_crc.md R92). It is not defined for
fewer than two bytes. -/
def crcOk (f : List Byte) : Option Bool :=
  if f.length < 2 then none
  else some (slice f (f.length - 2) f.length == crcBytes (slice f 0 (f.length - 2)))

/-- `CRC16` (40_crc.md R91). -/
def crc16Body (s : State) : Except Status State :=
  .ok (setResults (fun r => { r with crc := crcWord (inputBytes s) }) s)

/-- `CRC16`, opcode 0x01 (40_crc.md R91). -/
def execCrc16 (s : State) : Host.Outcome State Fault Refusal := operation opcodeCrc16 crc16Body s

/-- `CRC_VALIDATE` (40_crc.md R93): a failed comparison is no error, it leaves `VALID` 0 (60_exceptions.md R206). -/
def crcValidateBody (s : State) : Except Status State :=
  match crcOk (inputBytes s) with
  | none => .error .frameTooShort
  | some valid =>
    .ok (setResults (fun r =>
      { r with crc := crcWord (slice (inputBytes s) 0 ((inputBytes s).length - 2)), flags := setValid valid r.flags }) s)

/-- `CRC_VALIDATE`, opcode 0x02 (40_crc.md R93). -/
def execCrcValidate (s : State) : Host.Outcome State Fault Refusal := operation opcodeCrcValidate crcValidateBody s

end Sys2Proof.Machine
end

