-- ==== Sys2Proof/Machine/RtuBuild.lean ====
section
/-! DEFINITION. `RTU_BUILD`, the RTU request packer (41_rtu_build.md): the envelope once, and one body per form. -/

namespace Sys2Proof.Machine

/-- The head of the frame the checksum covers: station, function code, PDU body (41_rtu_build.md R100). -/
def rtuHead (s : State) (body : List Byte) : List Byte := [s.op.station, s.op.fc] ++ body

/-- The envelope (41_rtu_build.md R100): the frame with its checksum into `OBUF`, station, function code and checksum into the results. -/
def rtuEnvelope (s : State) (body : List Byte) : State :=
  setResults (fun r => { r with station := s.op.station, fc := s.op.fc, crc := crcWord (rtuHead s body) })
    (emit (rtuHead s body ++ crcBytes (rtuHead s body)) s)

/-- `RTU_BUILD` over the body of a form (41_rtu_build.md R100). -/
def rtuBuild (body : State → Except Status (List Byte)) (s : State) : Host.Outcome State Fault Refusal :=
  operation opcodeRtuBuild (fun t => (body t).map (rtuEnvelope t)) s

/-- `be16(addr) ++ be16(lv)`: the body of formats A and C (30_encoding.md R65, R67). -/
def rtuAddressAndWord (s : State) : List Byte := be16 s.op.addr ++ be16 s.op.lv

/-- The two value bytes of the single-coil write: `FF 00` exactly when the operand is zero, else `00 00`. The polarity is the spec's literal
mapping, "do not silently fix the polarity" (41_rtu_build.md R105, 90_conflicts.md C5). -/
def singleCoilBytes (lv : Word) : List Byte := [if lv = 0#16 then 0xFF#8 else 0x00#8, 0x00#8]

/-- Form 0x01, read coils (41_rtu_build.md R101). -/
def rtuBodyFc01 (s : State) : Except Status (List Byte) := .ok (rtuAddressAndWord s)

/-- Form 0x02, read discrete inputs (41_rtu_build.md R102). -/
def rtuBodyFc02 (s : State) : Except Status (List Byte) := .ok (rtuAddressAndWord s)

/-- Form 0x03, read holding registers (41_rtu_build.md R103). -/
def rtuBodyFc03 (s : State) : Except Status (List Byte) := .ok (rtuAddressAndWord s)

/-- Form 0x04, read input registers (41_rtu_build.md R104). -/
def rtuBodyFc04 (s : State) : Except Status (List Byte) := .ok (rtuAddressAndWord s)

/-- Form 0x05, write single coil (41_rtu_build.md R105). -/
def rtuBodyFc05 (s : State) : Except Status (List Byte) := .ok (be16 s.op.addr ++ singleCoilBytes s.op.lv)

/-- Form 0x06, write single register (41_rtu_build.md R106). -/
def rtuBodyFc06 (s : State) : Except Status (List Byte) := .ok (rtuAddressAndWord s)

/-- Form 0x0F, write multiple coils (41_rtu_build.md R107): absent data first (R111), then the byte count from the count, refused above 255
(R112), then the data unchanged. -/
def rtuBodyFc0F (s : State) : Except Status (List Byte) :=
  match dataOperand s with
  | none => .error .invalidDataLength
  | some data =>
    if 255 < ceilDiv s.op.lv.toNat 8 then .error .range
    else .ok (rtuAddressAndWord s ++ [BitVec.ofNat 8 (ceilDiv s.op.lv.toNat 8)] ++ data)

/-- Form 0x10, write multiple registers (41_rtu_build.md R108): absent data first (R111), then the byte count from the data, refused above
255 (R112), then the data unchanged. -/
def rtuBodyFc10 (s : State) : Except Status (List Byte) :=
  match dataOperand s with
  | none => .error .invalidDataLength
  | some data =>
    if 255 < s.op.ilen.toNat then .error .range
    else .ok (rtuAddressAndWord s ++ [BitVec.ofNat 8 s.op.ilen.toNat] ++ data)

/-- Any other function code, whatever the data (41_rtu_build.md R109). -/
def rtuBodyUnsupported (_ : State) : Except Status (List Byte) := .error .unsupportedFunctionCode

/-- `RTU_BUILD`, form 0x01 (41_rtu_build.md R100, R101). -/
def execRtuBuildFc01 (s : State) : Host.Outcome State Fault Refusal := rtuBuild rtuBodyFc01 s

/-- `RTU_BUILD`, form 0x02 (41_rtu_build.md R100, R102). -/
def execRtuBuildFc02 (s : State) : Host.Outcome State Fault Refusal := rtuBuild rtuBodyFc02 s

/-- `RTU_BUILD`, form 0x03 (41_rtu_build.md R100, R103). -/
def execRtuBuildFc03 (s : State) : Host.Outcome State Fault Refusal := rtuBuild rtuBodyFc03 s

/-- `RTU_BUILD`, form 0x04 (41_rtu_build.md R100, R104). -/
def execRtuBuildFc04 (s : State) : Host.Outcome State Fault Refusal := rtuBuild rtuBodyFc04 s

/-- `RTU_BUILD`, form 0x05 (41_rtu_build.md R100, R105). -/
def execRtuBuildFc05 (s : State) : Host.Outcome State Fault Refusal := rtuBuild rtuBodyFc05 s

/-- `RTU_BUILD`, form 0x06 (41_rtu_build.md R100, R106). -/
def execRtuBuildFc06 (s : State) : Host.Outcome State Fault Refusal := rtuBuild rtuBodyFc06 s

/-- `RTU_BUILD`, form 0x0F (41_rtu_build.md R100, R107). -/
def execRtuBuildFc0F (s : State) : Host.Outcome State Fault Refusal := rtuBuild rtuBodyFc0F s

/-- `RTU_BUILD`, form 0x10 (41_rtu_build.md R100, R108). -/
def execRtuBuildFc10 (s : State) : Host.Outcome State Fault Refusal := rtuBuild rtuBodyFc10 s

/-- `RTU_BUILD`, unsupported function code (41_rtu_build.md R109). -/
def execRtuBuildUnsupported (s : State) : Host.Outcome State Fault Refusal := rtuBuild rtuBodyUnsupported s

end Sys2Proof.Machine
end

