-- ==== Sys2Proof/Machine/RtuParse.lean ====
section
/-! DEFINITION. `RTU_PARSE`, the RTU response unpacker and checksum gate (42_rtu_parse.md). -/

namespace Sys2Proof.Machine

/-- A response with a byte count at offset 2 (30_encoding.md R69, 42_rtu_parse.md R124). -/
def isCounted (fc : Byte) : Bool := [0x01#8, 0x02#8, 0x03#8, 0x04#8].contains fc

/-- A response with a fixed payload of four bytes at offset 2 (30_encoding.md R69, 42_rtu_parse.md R125). -/
def isFixedFour (fc : Byte) : Bool := [0x05#8, 0x06#8, 0x0F#8, 0x10#8].contains fc

/-- The slice the function code names, as start and end before clamping; none for any other function code (42_rtu_parse.md R124 to R126).
`count` is the byte at offset 2. -/
def payloadBounds (fc count : Byte) : Option (Nat × Nat) :=
  if isCounted fc then some (3, 3 + count.toNat)
  else if isFixedFour fc then some (2, 6)
  else none

/-- The payload and `TRUNC`, the slice clamped at `lim`, the index of the first CRC byte (42_rtu_parse.md R120, R127; log 12). -/
def rtuPayload (raw : List Byte) (fc count : Byte) (lim : Nat) : List Byte × Bool :=
  match payloadBounds fc count with
  | some (start, want) => (slice raw start (min want lim), decide (lim < want))
  | none => ([], false)

/-- `RTU_PARSE` on the raw bytes `st :: fc :: count :: rest` (42_rtu_parse.md R120): length (R121), checksum (R122), then the fields (R123)
and the payload (R124 to R127). A frame of four bytes or more has the three bytes named. -/
def rtuParseBody (s : State) : Except Status State :=
  match inputBytes s with
  | st :: fc :: count :: last :: rest =>
    let raw := st :: fc :: count :: last :: rest
    if crcOk raw = some true then
      let payload := rtuPayload raw fc count (raw.length - 2)
      .ok (setResults (fun r =>
        { r with station := st, fc := fc, crc := crcWord (slice raw 0 (raw.length - 2)), flags := setTrunc payload.2 r.flags })
        (emit payload.1 s))
    else .error .checksumMismatch
  | _ => .error .frameTooShort

/-- `RTU_PARSE`, opcode 0x04 (42_rtu_parse.md R120). -/
def execRtuParse (s : State) : Host.Outcome State Fault Refusal := operation opcodeRtuParse rtuParseBody s

end Sys2Proof.Machine
end

