-- ==== Sys2Proof/Machine/TcpBuild.lean ====
section
/-! DEFINITION. `TCP_BUILD_REQ` and `TCP_BUILD_RESP`, the TCP packers (43_tcp_build.md). -/

namespace Sys2Proof.Machine

/-- The seven bytes of the MBAP header (30_encoding.md R70, R72). -/
def mbapHeader (tid pid length : Word) (unit : Byte) : List Byte := be16 tid ++ be16 pid ++ be16 length ++ [unit]

/-- `display(fc, addr)`: the display-form logical address as a number, by the register kind of the function code (43_tcp_build.md R143,
10_state.md R18). -/
def displayAddress (fc : Byte) (addr : Word) : Nat :=
  if fc = 0x01#8 ∨ fc = 0x05#8 ∨ fc = 0x0F#8 then addr.toNat + 1
  else if fc = 0x02#8 then addr.toNat + 10001
  else if fc = 0x04#8 then addr.toNat + 30001
  else if fc = 0x03#8 ∨ fc = 0x06#8 ∨ fc = 0x10#8 then addr.toNat + 40001
  else addr.toNat

/-- The MBAP `length` field of a request: the unit id and the PDU (43_tcp_build.md R130). -/
def requestLength (pdu : List Byte) : Word := BitVec.ofNat 16 (pdu.length + 1)

/-- MBAP header and PDU into `OBUF`, the fields into the results (43_tcp_build.md R130): the protocol id of a request is 0x0000. -/
def tcpRequestEnvelope (s : State) (pdu : List Byte) : State :=
  setResults (fun r =>
    { r with tid := s.op.tid, pid := 0x0000#16, len := requestLength pdu, station := s.op.station, fc := s.op.fc,
             disp := BitVec.ofNat 32 (displayAddress s.op.fc s.op.addr) })
    (emit (mbapHeader s.op.tid 0x0000#16 (requestLength pdu) s.op.station ++ pdu) s)

/-- `TCP_BUILD_REQ` over the PDU of a form (43_tcp_build.md R130). -/
def tcpBuildReq (pdu : State → Except Status (List Byte)) (s : State) : Host.Outcome State Fault Refusal :=
  operation opcodeTcpBuildReq (fun t => (pdu t).map (tcpRequestEnvelope t)) s

/-- Form 0x01, read coils (43_tcp_build.md R131). -/
def tcpPduFc01 (s : State) : Except Status (List Byte) := .ok ([0x01#8] ++ be16 s.op.addr ++ be16 s.op.lv)

/-- Form 0x02, read discrete inputs (43_tcp_build.md R132). -/
def tcpPduFc02 (s : State) : Except Status (List Byte) := .ok ([0x02#8] ++ be16 s.op.addr ++ be16 s.op.lv)

/-- Form 0x03, read holding registers (43_tcp_build.md R133). -/
def tcpPduFc03 (s : State) : Except Status (List Byte) := .ok ([0x03#8] ++ be16 s.op.addr ++ be16 s.op.lv)

/-- Form 0x04, read input registers (43_tcp_build.md R134). -/
def tcpPduFc04 (s : State) : Except Status (List Byte) := .ok ([0x04#8] ++ be16 s.op.addr ++ be16 s.op.lv)

/-- Form 0x05, write single coil (43_tcp_build.md R136), for either reading `src` of `TCP_SW_VALUE_SRC` (log 4). -/
def tcpPduFc05 (src : Config.ValueSource) (s : State) : Except Status (List Byte) :=
  if dataLength s < 2 then .error .invalidDataLength
  else
    match src with
    | .data => .ok ([0x05#8] ++ be16 s.op.addr ++ slice (inputBytes s) 0 2)
    | .length => .ok ([0x05#8] ++ be16 s.op.addr ++ singleCoilBytes s.op.lv)

/-- Form 0x06, write single register (43_tcp_build.md R137), for either reading `src` of `TCP_SW_VALUE_SRC` (log 4). -/
def tcpPduFc06 (src : Config.ValueSource) (s : State) : Except Status (List Byte) :=
  if dataLength s < 2 then .error .invalidDataLength
  else
    match src with
    | .data => .ok ([0x06#8] ++ be16 s.op.addr ++ slice (inputBytes s) 0 2)
    | .length => .ok ([0x06#8] ++ be16 s.op.addr ++ be16 s.op.lv)

/-- Form 0x0F, write multiple coils (43_tcp_build.md R138): absent data first (R142), then the one-byte data length. -/
def tcpPduFc0F (s : State) : Except Status (List Byte) :=
  match dataOperand s with
  | none => .error .invalidDataLength
  | some data =>
    if 255 < dataLength s then .error .range
    else .ok ([0x0F#8] ++ be16 s.op.addr ++ be16 s.op.lv ++ [BitVec.ofNat 8 (dataLength s)] ++ data)

/-- Form 0x10, write multiple registers (43_tcp_build.md R139): empty, absent or odd data first, then the one-byte data length. The register
count is half the data length; `OP_LV` is not used. -/
def tcpPduFc10 (s : State) : Except Status (List Byte) :=
  if dataLength s = 0 ∨ dataLength s % 2 = 1 then .error .invalidDataLength
  else if 255 < dataLength s then .error .range
  else
    .ok ([0x10#8] ++ be16 s.op.addr ++ be16 (BitVec.ofNat 16 (dataLength s / 2)) ++ [BitVec.ofNat 8 (dataLength s)] ++ inputBytes s)

/-- Any other function code, whatever the data (43_tcp_build.md R141). -/
def tcpPduUnsupported (_ : State) : Except Status (List Byte) := .error .unsupportedFunctionCode

/-- `TCP_BUILD_REQ`, form 0x01 (43_tcp_build.md R130, R131). -/
def execTcpBuildReqFc01 (s : State) : Host.Outcome State Fault Refusal := tcpBuildReq tcpPduFc01 s

/-- `TCP_BUILD_REQ`, form 0x02 (43_tcp_build.md R130, R132). -/
def execTcpBuildReqFc02 (s : State) : Host.Outcome State Fault Refusal := tcpBuildReq tcpPduFc02 s

/-- `TCP_BUILD_REQ`, form 0x03 (43_tcp_build.md R130, R133). -/
def execTcpBuildReqFc03 (s : State) : Host.Outcome State Fault Refusal := tcpBuildReq tcpPduFc03 s

/-- `TCP_BUILD_REQ`, form 0x04 (43_tcp_build.md R130, R134). -/
def execTcpBuildReqFc04 (s : State) : Host.Outcome State Fault Refusal := tcpBuildReq tcpPduFc04 s

/-- `TCP_BUILD_REQ`, form 0x05 (43_tcp_build.md R130, R136). -/
def execTcpBuildReqFc05 (s : State) : Host.Outcome State Fault Refusal := tcpBuildReq (tcpPduFc05 Config.tcpSwValueSrc) s

/-- `TCP_BUILD_REQ`, form 0x06 (43_tcp_build.md R130, R137). -/
def execTcpBuildReqFc06 (s : State) : Host.Outcome State Fault Refusal := tcpBuildReq (tcpPduFc06 Config.tcpSwValueSrc) s

/-- `TCP_BUILD_REQ`, form 0x0F (43_tcp_build.md R130, R138). -/
def execTcpBuildReqFc0F (s : State) : Host.Outcome State Fault Refusal := tcpBuildReq tcpPduFc0F s

/-- `TCP_BUILD_REQ`, form 0x10 (43_tcp_build.md R130, R139). -/
def execTcpBuildReqFc10 (s : State) : Host.Outcome State Fault Refusal := tcpBuildReq tcpPduFc10 s

/-- `TCP_BUILD_REQ`, unsupported function code (43_tcp_build.md R141). -/
def execTcpBuildReqUnsupported (s : State) : Host.Outcome State Fault Refusal := tcpBuildReq tcpPduUnsupported s

/-- The MBAP `length` field of a response: `2 + x[OP_ILEN]` (43_tcp_build.md R140). -/
def responseLength (s : State) : Word := BitVec.ofNat 16 (2 + s.op.ilen.toNat)

/-- `TCP_BUILD_RESP` (43_tcp_build.md R140): every function code and every protocol id is copied as given (R145). -/
def tcpBuildRespBody (s : State) : Except Status State :=
  .ok (setResults (fun r =>
    { r with tid := s.op.tid, pid := s.op.pid, len := responseLength s, station := s.op.station, fc := s.op.fc })
    (emit (mbapHeader s.op.tid s.op.pid (responseLength s) s.op.station ++ [s.op.fc] ++ inputBytes s) s))

/-- `TCP_BUILD_RESP`, opcode 0x06 (43_tcp_build.md R140). -/
def execTcpBuildResp (s : State) : Host.Outcome State Fault Refusal := operation opcodeTcpBuildResp tcpBuildRespBody s

end Sys2Proof.Machine
end

