-- ==== Sys2Proof/Machine/TcpParse.lean ====
section
/-! DEFINITION. `TCP_PARSE`, the TCP request-header unpacker (44_tcp_parse.md). -/

namespace Sys2Proof.Machine

/-- `TCP_PARSE` (44_tcp_parse.md R150): fewer than twelve bytes fail (R151); the seven fields are copied as found, nothing else is checked
(R153), and bytes from offset 12 on are not read (30_encoding.md R73). -/
def tcpParseBody (s : State) : Except Status State :=
  match inputBytes s with
  | b0 :: b1 :: b2 :: b3 :: b4 :: b5 :: b6 :: b7 :: b8 :: b9 :: b10 :: b11 :: _ =>
    .ok (setResults (fun r =>
      { r with tid := u16be b0 b1, pid := u16be b2 b3, len := u16be b4 b5, station := b6, fc := b7, addr := u16be b8 b9,
               qty := u16be b10 b11 }) s)
  | _ => .error .frameTooShort

/-- `TCP_PARSE`, opcode 0x07 (44_tcp_parse.md R150). -/
def execTcpParse (s : State) : Host.Outcome State Fault Refusal := operation opcodeTcpParse tcpParseBody s

end Sys2Proof.Machine
end

