-- ==== Sys2Proof/Machine/Typed.lean ====
section
/-! DEFINITION. `GET_BITS` and `GET_REGS`, the typed value extraction (45_typed_extraction.md). -/

namespace Sys2Proof.Machine

/-- The eight booleans of a byte, least significant bit first (20_memory.md R43). -/
def byteBits (b : Byte) : List Bool := (List.range 8).map b.getLsbD

/-- `bits(p)` (45_typed_extraction.md R160). -/
def bits (p : List Byte) : List Bool := p.flatMap byteBits

/-- A boolean as a `VBUF` entry: 0x0001 true, 0x0000 false (10_state.md R23). -/
def boolEntry (b : Bool) : Word := if b then 0x0001#16 else 0x0000#16

/-- `regs(p)` for an even number of bytes (45_typed_extraction.md R162); an odd byte at the end has no pair. -/
def regs : List Byte → List Word
  | b0 :: b1 :: rest => u16be b0 b1 :: regs rest
  | _ => []

/-- `GET_BITS` (45_typed_extraction.md R161). -/
def getBitsBody (s : State) : Except Status State :=
  if s.op.fc = 0x01#8 ∨ s.op.fc = 0x02#8 then
    .ok (setResults (fun r => { r with fc := s.op.fc }) (emitv ((bits (inputBytes s)).map boolEntry) s))
  else .error .wrongResponseKind

/-- `GET_BITS`, opcode 0x08 (45_typed_extraction.md R161). -/
def execGetBits (s : State) : Host.Outcome State Fault Refusal := operation opcodeGetBits getBitsBody s

/-- `GET_REGS` (45_typed_extraction.md R163): the kind first, then the parity. -/
def getRegsBody (s : State) : Except Status State :=
  if s.op.fc = 0x03#8 ∨ s.op.fc = 0x04#8 then
    if s.op.ilen.toNat % 2 = 1 then .error .invalidDataLength
    else .ok (setResults (fun r => { r with fc := s.op.fc }) (emitv (regs (inputBytes s)) s))
  else .error .wrongResponseKind

/-- `GET_REGS`, opcode 0x09 (45_typed_extraction.md R163). -/
def execGetRegs (s : State) : Host.Outcome State Fault Refusal := operation opcodeGetRegs getRegsBody s

end Sys2Proof.Machine
end

