-- ==== Sys2Proof/Machine/Dispatch.lean ====
section
/-! DEFINITION. The dispatch: one arm per command, each one call of its meaning. -/

namespace Sys2Proof.Machine

/-- The effect of a command: the whole host write of its opcode to `CMD` (10_state.md R20). -/
def exec (i : Instr) (s : State) : Host.Outcome State Fault Refusal :=
  match i with
  | .crc16 => Sys2Proof.Machine.execCrc16 s
  | .crcValidate => Sys2Proof.Machine.execCrcValidate s
  | .rtuBuildFc01 => Sys2Proof.Machine.execRtuBuildFc01 s
  | .rtuBuildFc02 => Sys2Proof.Machine.execRtuBuildFc02 s
  | .rtuBuildFc03 => Sys2Proof.Machine.execRtuBuildFc03 s
  | .rtuBuildFc04 => Sys2Proof.Machine.execRtuBuildFc04 s
  | .rtuBuildFc05 => Sys2Proof.Machine.execRtuBuildFc05 s
  | .rtuBuildFc06 => Sys2Proof.Machine.execRtuBuildFc06 s
  | .rtuBuildFc0F => Sys2Proof.Machine.execRtuBuildFc0F s
  | .rtuBuildFc10 => Sys2Proof.Machine.execRtuBuildFc10 s
  | .rtuBuildUnsupported => Sys2Proof.Machine.execRtuBuildUnsupported s
  | .rtuParse => Sys2Proof.Machine.execRtuParse s
  | .tcpBuildReqFc01 => Sys2Proof.Machine.execTcpBuildReqFc01 s
  | .tcpBuildReqFc02 => Sys2Proof.Machine.execTcpBuildReqFc02 s
  | .tcpBuildReqFc03 => Sys2Proof.Machine.execTcpBuildReqFc03 s
  | .tcpBuildReqFc04 => Sys2Proof.Machine.execTcpBuildReqFc04 s
  | .tcpBuildReqFc05 => Sys2Proof.Machine.execTcpBuildReqFc05 s
  | .tcpBuildReqFc06 => Sys2Proof.Machine.execTcpBuildReqFc06 s
  | .tcpBuildReqFc0F => Sys2Proof.Machine.execTcpBuildReqFc0F s
  | .tcpBuildReqFc10 => Sys2Proof.Machine.execTcpBuildReqFc10 s
  | .tcpBuildReqUnsupported => Sys2Proof.Machine.execTcpBuildReqUnsupported s
  | .tcpBuildResp => Sys2Proof.Machine.execTcpBuildResp s
  | .tcpParse => Sys2Proof.Machine.execTcpParse s
  | .getBits => Sys2Proof.Machine.execGetBits s
  | .getRegs => Sys2Proof.Machine.execGetRegs s
  | .illegalOp00 => Sys2Proof.Machine.execIllegalOp00 s
  | .illegalOp0A0B opcode => Sys2Proof.Machine.execIllegalOp0A0B opcode s
  | .illegalOp0C0F opcode => Sys2Proof.Machine.execIllegalOp0C0F opcode s
  | .illegalOp101F opcode => Sys2Proof.Machine.execIllegalOp101F opcode s
  | .illegalOp203F opcode => Sys2Proof.Machine.execIllegalOp203F opcode s
  | .illegalOp407F opcode => Sys2Proof.Machine.execIllegalOp407F opcode s
  | .illegalOp80FF opcode => Sys2Proof.Machine.execIllegalOp80FF opcode s

end Sys2Proof.Machine
end

