-- ==== Sys2Proof/Machine/HostAccess.lean ====
section
/-! DEFINITION. What a host move other than the start of a command does (20_memory.md R47, R48, R52; 10_state.md R28). -/

namespace Sys2Proof.Machine

/-- The opcode a move writes to `CMD`, when the move is such a write of a value that fits (10_state.md R20, 20_memory.md R52). -/
def startedOpcode (m : HostMove) : Option Byte :=
  match m with
  | .writeReg number value =>
    if regOfNumber number = some .cmd ∧ value < 2 ^ 8 then some (BitVec.ofNat 8 value) else none
  | .writeIbuf _ _ | .writeObuf _ _ | .writeVbuf _ _ | .readReg _ | .readIbuf _ | .readObuf _ | .readVbuf _ | .reset => none

/-- The value a host read returns, added to the answers; the block itself is unchanged (20_memory.md R48; log 10). -/
def answer (v : BitVec 32) (s : State) : State := { s with answers := s.answers ++ [v] }

/-- The capacity of a buffer (20_memory.md R40). -/
def capacity : Space → Nat
  | .ibuf => Config.inCap
  | .obuf => Config.outCap
  | .vbuf => Config.valCap

/-- A buffer access at an index: refused at or beyond the capacity (10_state.md R28; log 8). -/
def atIndex (space : Space) (index : Nat) (t : State) : Host.Outcome State Fault Refusal :=
  if index < capacity space then .next t else .refused (.beyondCapacity space index)

/-- A host write to a register number: refused for a reserved number and for a value that does not fit (10_state.md R28; log 8). -/
def hostWriteRegister (number value : Nat) (s : State) : Host.Outcome State Fault Refusal :=
  match regOfNumber number with
  | none => .refused (.reservedRegister number)
  | some r => if value < 2 ^ regWidth r then .next (writeRegister r value s) else .refused (.valueTooWide number value)

/-- A host read of a register number: refused for a reserved number (10_state.md R28; log 8). -/
def hostReadRegister (number : Nat) (s : State) : Host.Outcome State Fault Refusal :=
  match regOfNumber number with
  | none => .refused (.reservedRegister number)
  | some r => .next (answer (readRegister s r) s)

/-- One host move that starts no command. Writes to `OBUF` and `VBUF` are ignored (10_state.md R22, R23, R28; log 9). -/
def hostAccess (m : HostMove) (s : State) : Host.Outcome State Fault Refusal :=
  match m with
  | .writeReg number value => hostWriteRegister number value s
  | .writeIbuf index b => atIndex .ibuf index { s with ibuf := Memory.write s.ibuf index b }
  | .writeObuf index _ => atIndex .obuf index s
  | .writeVbuf index _ => atIndex .vbuf index s
  | .readReg number => hostReadRegister number s
  | .readIbuf index => atIndex .ibuf index (answer ((ibufByte s index).setWidth 32) s)
  | .readObuf index => atIndex .obuf index (answer ((obufByte s index).setWidth 32) s)
  | .readVbuf index => atIndex .vbuf index (answer ((vbufEntry s index).setWidth 32) s)
  | .reset => .next (hostReset s)

/-- The oldest pending move taken off the list; the block is unchanged. -/
def dropMoves (rest : List HostMove) (s : State) : State := { s with moves := rest }

/-- Make the host's next move the write of `op` to `CMD`. Where `OP_FC` chooses the row of that opcode, it holds `fc` (log 2). -/
def placeCommand (op fc : Byte) (s : State) : State :=
  { s with moves := .writeReg (regNumber .cmd) op.toNat :: s.moves, op := if hasForms op then { s.op with fc := fc } else s.op }

end Sys2Proof.Machine
end

