-- ==== Sys2Proof/Machine/Step.lean ====
section
/-! DEFINITION. One step: the host's oldest pending move (00_scope.md R5, 20_memory.md R51, R52). -/

namespace Sys2Proof.Machine

/-- One step. With no move pending the block is idle and "holds its state" (60_exceptions.md R205). A write of an opcode to `CMD` runs that
operation whole (10_state.md R20); `OP_FC` is read at that moment to choose the form (30_encoding.md R61). Any other move is an access. -/
def step (s : State) : Host.Outcome State Fault Refusal :=
  match s.moves with
  | [] => .next s
  | m :: rest =>
    match startedOpcode m with
    | some op => exec (decodeOpcode s.op.fc op) (dropMoves rest s)
    | none => hostAccess m (dropMoves rest s)

/-- `s` with the host about to write the command byte of a table word to `CMD` (log 2). -/
def State.withFetchWord (s : State) (nbits w : Nat) : State := placeCommand (tableWordOpcode nbits w) (tableWordFc nbits w) s

end Sys2Proof.Machine
end

