-- ==== Sys2Proof/Machine/Script.lean ====
section
/-! DEFINITION. The command-script notation: each line as the host moves it stands for (30_encoding.md R84, R85; log 20). -/

namespace Sys2Proof.Machine

/-- The mnemonics a `RUN` line can spell (30_encoding.md R61). -/
inductive Mnemonic where
  | crc16 | crcValidate | rtuBuild | rtuParse | tcpBuildReq | tcpBuildResp | tcpParse | getBits | getRegs
deriving DecidableEq, Repr

/-- The opcode of a mnemonic (30_encoding.md R61). -/
def mnemonicOpcode : Mnemonic → Byte
  | .crc16 => opcodeCrc16
  | .crcValidate => opcodeCrcValidate
  | .rtuBuild => opcodeRtuBuild
  | .rtuParse => opcodeRtuParse
  | .tcpBuildReq => opcodeTcpBuildReq
  | .tcpBuildResp => opcodeTcpBuildResp
  | .tcpParse => opcodeTcpParse
  | .getBits => opcodeGetBits
  | .getRegs => opcodeGetRegs

/-- A line of a command script (30_encoding.md R84). -/
inductive ScriptLine where
  | set (r : Reg) (v : Nat)
  | load (bytes : List Byte)
  | run (m : Mnemonic)
  | get (r : Reg)
  | dumpObuf
  | dumpVbuf
  | copy
  | reset
deriving DecidableEq, Repr

/-- `HostWriteIBUF(i, b_i)` for each byte, from index `i` on. -/
def loadMoves (i : Nat) : List Byte → List HostMove
  | [] => []
  | b :: bs => .writeIbuf i b :: loadMoves (i + 1) bs

/-- `COPY OBUF -> IBUF`: for each index below `R_OLEN` a read and the write of the byte read, then `OP_ILEN`; "`OBUF` is not altered by host
writes to `IBUF`" (70_reset_and_hazards.md R214), so the bytes are those `OBUF` shows when the line is reached (log 20). -/
def copyMoves (s : State) : List HostMove :=
  ((List.range s.res.olen.toNat).flatMap fun i => [.readObuf i, .writeIbuf i (obufByte s i)])
    ++ [.writeReg (regNumber .opIlen) s.res.olen.toNat]

/-- The moves a line stands for, when it is reached in state `s` (30_encoding.md R84, R85). -/
def lineMoves (l : ScriptLine) (s : State) : List HostMove :=
  match l with
  | .set r v => [.writeReg (regNumber r) v]
  | .load bytes => loadMoves 0 bytes ++ [.writeReg (regNumber .opIlen) bytes.length]
  | .run m => [.writeReg (regNumber .cmd) (mnemonicOpcode m).toNat]
  | .get r => [.readReg (regNumber r)]
  | .dumpObuf => (List.range s.res.olen.toNat).map .readObuf
  | .dumpVbuf => (List.range s.res.vcnt.toNat).map .readVbuf
  | .copy => copyMoves s
  | .reset => [.reset]

/-- The host writes a line: its moves follow those still pending. -/
def placeLine (l : ScriptLine) (s : State) : State := { s with moves := s.moves ++ lineMoves l s }

end Sys2Proof.Machine
end

