-- ==== Sys2Proof/Machine/Resolver.lean ====
section
/-! DEFINITION. The host-side Address Resolver (48_host_address_resolver.md): software of the host, no operation of the block
(00_scope.md R4; log 17). It makes the triple the packers consume, and the host moves that hand it over and run a packer. -/

namespace Sys2Proof.Machine

/-- `AddressHeader`; `address` is the zero-based protocol address (R170). -/
structure AddressHeader where
  station : Byte
  functionCode : Byte
  address : Word
deriving DecidableEq, Repr

/-- The two error kinds (R179). -/
inductive AddressError where
  | malformedHeader
  | readOnlyRegister
deriving DecidableEq, Repr

/-- The eight data kinds (R178). -/
inductive DataKind where
  | int16 | uint16 | int32 | uint32 | int64 | uint64 | float | double
deriving DecidableEq, Repr

/-- The four register types (R175). -/
inductive RegisterType where
  | coil | discreteInput | inputRegister | holdingRegister
deriving DecidableEq, Repr

/-- `DIGIT`. -/
def decDigit (c : Char) : Option Nat := if '0' ≤ c ∧ c ≤ '9' then some (c.toNat - 48) else none

/-- `HEXDIG`, in either case (R180). -/
def hexDigit (c : Char) : Option Nat :=
  if '0' ≤ c ∧ c ≤ '9' then some (c.toNat - 48)
  else if 'A' ≤ c ∧ c ≤ 'F' then some (c.toNat - 55)
  else if 'a' ≤ c ∧ c ≤ 'f' then some (c.toNat - 87)
  else none

/-- The value of decimal digits read from the left after `acc`; none when a character is no digit. -/
def decValue (acc : Nat) : List Char → Option Nat
  | [] => some acc
  | c :: cs =>
    match decDigit c with
    | some d => decValue (acc * 10 + d) cs
    | none => none

/-- `1*nDIGIT`: one to `n` decimal digits (R180). -/
def decimal (n : Nat) (cs : List Char) : Option Nat := if 1 ≤ cs.length ∧ cs.length ≤ n then decValue 0 cs else none

/-- `dec-byte`: one to three digits, at most 255 (R180). -/
def decByte (cs : List Char) : Option Byte :=
  match decimal 3 cs with
  | some v => if v ≤ 255 then some (BitVec.ofNat 8 v) else none
  | none => none

/-- The prefix of a `hex-byte`; whether `0X` counts is open (91_not_in_source.md N19; log 17). -/
def isHexPrefix (z x : Char) : Bool := z == '0' && (x == 'x' || (x == 'X' && Config.resolverTakesUpperX))

/-- `hex-byte`: the prefix and exactly two hexadecimal digits (R180). -/
def hexByte (cs : List Char) : Option Byte :=
  match cs with
  | [z, x, h, l] =>
    if isHexPrefix z x then
      match hexDigit h, hexDigit l with
      | some a, some b => some (BitVec.ofNat 8 (a * 16 + b))
      | _, _ => none
    else none
  | _ => none

/-- A `station` or `func-code` field (R172, R173). -/
def byteField (cs : List Char) : Option Byte :=
  match decByte cs with
  | some b => some b
  | none => hexByte cs

/-- The register type a logical prefix selects (R175: prefix 3 is an input register, prefix 4 a holding register). -/
def logicalPrefix (c : Char) : Option RegisterType :=
  if c = '1' then some .coil
  else if c = '2' then some .discreteInput
  else if c = '3' then some .inputRegister
  else if c = '4' then some .holdingRegister
  else none

/-- A logical address: prefix and one to five digits of a value in [1, 65535]; the protocol address is the value minus 1 (R175). -/
def logicalAddress (cs : List Char) : Option (RegisterType × Word) :=
  match cs with
  | [] => none
  | c :: ds =>
    match logicalPrefix c, decimal 5 ds with
    | some t, some v => if 1 ≤ v ∧ v ≤ 65535 then some (t, BitVec.ofNat 16 (v - 1)) else none
    | _, _ => none

/-- A plain address: one to five digits, at most 65535 (R174). -/
def plainAddress (cs : List Char) : Option Word :=
  match decimal 5 cs with
  | some v => if v ≤ 65535 then some (BitVec.ofNat 16 v) else none
  | none => none

/-- An address field: logical first, plain second (R174); a plain address has the register type holding register (R177). -/
def addressField (cs : List Char) : Option (RegisterType × Word) :=
  match logicalAddress cs with
  | some ta => some ta
  | none => (plainAddress cs).map fun a => (.holdingRegister, a)

/-- The input split on `;` (R171). -/
def splitFields : List Char → List (List Char)
  | [] => [[]]
  | c :: cs =>
    if c = ';' then [] :: splitFields cs
    else
      match splitFields cs with
      | f :: fs => (c :: f) :: fs
      | [] => [[c]]

/-- A data kind of one register (R178: Int16 or UInt16). -/
def isSingleRegister : DataKind → Bool
  | .int16 | .uint16 => true
  | .int32 | .uint32 | .int64 | .uint64 | .float | .double => false

/-- Function-code inference of the Enhanced form (R178). -/
def inferFunctionCode (t : RegisterType) (k : DataKind) (isWrite : Bool) : Except AddressError Byte :=
  match t with
  | .coil => .ok (if isWrite then 0x05#8 else 0x01#8)
  | .discreteInput => if isWrite then .error .readOnlyRegister else .ok 0x02#8
  | .inputRegister => if isWrite then .error .readOnlyRegister else .ok 0x04#8
  | .holdingRegister => .ok (if isWrite then (if isSingleRegister k then 0x06#8 else 0x10#8) else 0x03#8)

/-- The Standard form (R176): the data kind and the direction are not used. -/
def resolveStandard (st fc addr : List Char) : Except AddressError AddressHeader :=
  match byteField st, byteField fc, addressField addr with
  | some s, some f, some (_, a) => .ok { station := s, functionCode := f, address := a }
  | _, _, _ => .error .malformedHeader

/-- The Enhanced form (R177, R178). DESIGN CHOICE (log 21): R179 gives no order of its two error kinds; where the station does not parse and
the write is to a read-only register type, the model reports `malformedHeader`. -/
def resolveEnhanced (st addr : List Char) (k : DataKind) (isWrite : Bool) : Except AddressError AddressHeader :=
  match byteField st, addressField addr with
  | some s, some (t, a) => (inferFunctionCode t k isWrite).map fun f => { station := s, functionCode := f, address := a }
  | _, _ => .error .malformedHeader

/-- `resolve`, on the characters of the header: the count of fields alone selects the form (R170, R171). -/
def resolve (header : List Char) (k : DataKind) (isWrite : Bool) : Except AddressError AddressHeader :=
  match splitFields header with
  | [st, fc, addr] => resolveStandard st fc addr
  | [st, addr] => resolveEnhanced st addr k isWrite
  | _ => .error .malformedHeader

/-- The convenience entry point: every failure is an absent value (R179). -/
def resolveOrNone (header : List Char) (k : DataKind) (isWrite : Bool) : Option AddressHeader :=
  match resolve header k isWrite with
  | .ok h => some h
  | .error _ => none

/-- The "try" entry point: every failure is one boolean (R179). DESIGN CHOICE (log 23): what it hands back on success is open; the model's answer
is the bare `true`, and the header is what `resolve` and `resolveOrNone` answer. -/
def tryResolve (header : List Char) (k : DataKind) (isWrite : Bool) : Bool := (resolveOrNone header k isWrite).isSome

/-- The frame codecs a caller can choose between (R182). -/
inductive FrameCodec where
  | rtu | tcp
deriving DecidableEq, Repr

/-- The command that builds a codec's request: `RTU_BUILD` or `TCP_BUILD_REQ` (R182). -/
def packer : FrameCodec → Mnemonic
  | .rtu => .rtuBuild
  | .tcp => .tcpBuildReq

/-- The hand-off to the block: the three operand registers are set (R182). -/
def handOff (h : AddressHeader) : List HostMove :=
  [.writeReg (regNumber .opStation) h.station.toNat, .writeReg (regNumber .opFc) h.functionCode.toNat,
   .writeReg (regNumber .opAddr) h.address.toNat]

/-- What the host does with a structured header: the hand-off, then the run of the packer (R182). The packer's other operands (value, data,
transaction id) are in their registers already. -/
def headerMoves (c : FrameCodec) (h : AddressHeader) : List HostMove :=
  handOff h ++ [.writeReg (regNumber .cmd) (mnemonicOpcode (packer c)).toNat]

/-- What the host does with an address string: as with the header it resolves to; "a failed resolution starts no operation" (R182). -/
def requestMoves (c : FrameCodec) (header : List Char) (k : DataKind) (isWrite : Bool) : List HostMove :=
  match resolve header k isWrite with
  | .ok h => headerMoves c h
  | .error _ => []

/-- The host makes a request from an address string: its moves follow those still pending (R182). -/
def placeRequest (c : FrameCodec) (header : List Char) (k : DataKind) (isWrite : Bool) (s : State) : State :=
  { s with moves := s.moves ++ requestMoves c header k isWrite }

end Sys2Proof.Machine
end

