-- ==== Sys2Proof/Safety.lean ====
section
/-! DEFINITION. What claims speak of: which host moves the access rights allow, what a good state is, and what a command may touch. -/

namespace Sys2Proof.Machine

/-- A host move that 10_state.md R28 gives a meaning: the register number is one of R11, R14, R20, a value written fits the register, an index
lies below the buffer's capacity. A write to a result register, `OBUF` or `VBUF` is among them, as an ignored write: the model's choice (log
9). -/
def HostMove.allowed (m : HostMove) : Bool :=
  match m with
  | .writeReg number value =>
    match regOfNumber number with
    | some r => decide (value < 2 ^ regWidth r)
    | none => false
  | .readReg number => (regOfNumber number).isSome
  | .writeIbuf index _ => decide (index < Config.inCap)
  | .readIbuf index => decide (index < Config.inCap)
  | .writeObuf index _ => decide (index < Config.outCap)
  | .readObuf index => decide (index < Config.outCap)
  | .writeVbuf index _ => decide (index < Config.valCap)
  | .readVbuf index => decide (index < Config.valCap)
  | .reset => true

/-- The invariant of the block: what holds in every state that runs reach, and that every step keeps. -/
structure State.Inv (s : State) : Prop where
  /-- Each buffer keeps its canonical form. -/
  ibuf_wf : Memory.wf s.ibuf = true
  obuf_wf : Memory.wf s.obuf = true
  vbuf_wf : Memory.wf s.vbuf = true
  /-- No unit is held beyond a buffer's capacity (20_memory.md R40). -/
  ibuf_within : Memory.within Config.inCap s.ibuf = true
  obuf_within : Memory.within Config.outCap s.obuf = true
  vbuf_within : Memory.within Config.valCap s.vbuf = true
  /-- `R_OLEN` is `0 .. OUT_CAP` and `R_VCNT` is `0 .. VAL_CAP` (10_state.md R19). -/
  olen_le : s.res.olen.toNat ≤ Config.outCap
  vcnt_le : s.res.vcnt.toNat ≤ Config.valCap
  /-- What lies below the two lengths has been written: it is the operation's result, not a free value. -/
  obuf_written : ∀ i, i < s.res.olen.toNat → (Memory.read s.obuf i).isSome = true
  vbuf_written : ∀ i, i < s.res.vcnt.toNat → (Memory.read s.vbuf i).isSome = true
  /-- Bits 7:2 of `R_FLAGS` are never set (10_state.md R16, 30_encoding.md R78). -/
  flags_reserved : s.res.flags &&& 0xFC#8 = 0#8
  /-- Bits 31:17 of `R_DISP` are always zero: its largest value is 105536 (10_state.md R18). -/
  disp_le : s.res.disp.toNat ≤ 105536
  /-- The two reserved status values are never produced (10_state.md R15). -/
  status_produced : s.res.status ≠ .malformedHeader ∧ s.res.status ≠ .readOnlyRegister
  /-- "On any error only `STATUS` is non-zero" (10_state.md R24). -/
  error_only_status : s.res.status ≠ .ok → s.res = { Results.cleared with status := s.res.status }

/-- What no command touches: the operand registers and `IBUF` (10_state.md R29), the host's moves and answers, the count of resets. -/
structure Untouched (s t : State) : Prop where
  op_eq : t.op = s.op
  ibuf_eq : t.ibuf = s.ibuf
  moves_eq : t.moves = s.moves
  answers_eq : t.answers = s.answers
  resetCount_eq : t.resetCount = s.resetCount

/-- The operand registers a command reads, by the table of 30_encoding.md R62 (registers marked `R`): two operand files agree on them. -/
def agreeOnRead (i : Instr) (a b : Operands) : Prop :=
  match i with
  | .crc16 | .crcValidate | .rtuParse | .tcpParse => a.ilen = b.ilen
  | .rtuBuildFc01 | .rtuBuildFc02 | .rtuBuildFc03 | .rtuBuildFc04 | .rtuBuildFc05 | .rtuBuildFc06 | .rtuBuildFc0F | .rtuBuildFc10
  | .rtuBuildUnsupported =>
    a.station = b.station ∧ a.fc = b.fc ∧ a.addr = b.addr ∧ a.lv = b.lv ∧ a.dpres = b.dpres ∧ a.ilen = b.ilen
  | .tcpBuildReqFc01 | .tcpBuildReqFc02 | .tcpBuildReqFc03 | .tcpBuildReqFc04 | .tcpBuildReqFc05 | .tcpBuildReqFc06 | .tcpBuildReqFc0F
  | .tcpBuildReqFc10 | .tcpBuildReqUnsupported =>
    a.station = b.station ∧ a.fc = b.fc ∧ a.addr = b.addr ∧ a.lv = b.lv ∧ a.tid = b.tid ∧ a.dpres = b.dpres ∧ a.ilen = b.ilen
  | .tcpBuildResp => a.station = b.station ∧ a.fc = b.fc ∧ a.tid = b.tid ∧ a.pid = b.pid ∧ a.ilen = b.ilen
  | .getBits | .getRegs => a.fc = b.fc ∧ a.ilen = b.ilen
  | .illegalOp00 | .illegalOp0A0B _ | .illegalOp0C0F _ | .illegalOp101F _ | .illegalOp203F _ | .illegalOp407F _ | .illegalOp80FF _ => True

/-- The commands whose operation reads `IBUF` (30_encoding.md R62, last column). Forms 0x05 and 0x06 of `TCP_BUILD_REQ` read it under one
reading of `TCP_SW_VALUE_SRC` and so are counted among them. -/
def readsInput (i : Instr) : Bool :=
  match i with
  | .crc16 | .crcValidate | .rtuParse | .tcpParse | .tcpBuildResp | .getBits | .getRegs | .rtuBuildFc0F | .rtuBuildFc10
  | .tcpBuildReqFc05 | .tcpBuildReqFc06 | .tcpBuildReqFc0F | .tcpBuildReqFc10 => true
  | .rtuBuildFc01 | .rtuBuildFc02 | .rtuBuildFc03 | .rtuBuildFc04 | .rtuBuildFc05 | .rtuBuildFc06 | .rtuBuildUnsupported
  | .tcpBuildReqFc01 | .tcpBuildReqFc02 | .tcpBuildReqFc03 | .tcpBuildReqFc04 | .tcpBuildReqUnsupported | .illegalOp00
  | .illegalOp0A0B _ | .illegalOp0C0F _ | .illegalOp101F _ | .illegalOp203F _ | .illegalOp407F _ | .illegalOp80FF _ => false

/-- A command that is one of the nine operations, not an illegal opcode (30_encoding.md R61). -/
def isOperation (i : Instr) : Bool :=
  match i with
  | .illegalOp00 | .illegalOp0A0B _ | .illegalOp0C0F _ | .illegalOp101F _ | .illegalOp203F _ | .illegalOp407F _ | .illegalOp80FF _ => false
  | .crc16 | .crcValidate | .rtuBuildFc01 | .rtuBuildFc02 | .rtuBuildFc03 | .rtuBuildFc04 | .rtuBuildFc05 | .rtuBuildFc06
  | .rtuBuildFc0F | .rtuBuildFc10 | .rtuBuildUnsupported | .rtuParse | .tcpBuildReqFc01 | .tcpBuildReqFc02 | .tcpBuildReqFc03
  | .tcpBuildReqFc04 | .tcpBuildReqFc05 | .tcpBuildReqFc06 | .tcpBuildReqFc0F | .tcpBuildReqFc10 | .tcpBuildReqUnsupported
  | .tcpBuildResp | .tcpParse | .getBits | .getRegs => true

end Sys2Proof.Machine
end

