-- ==== Sys2Proof/Certificates/Slice0/Obligations.lean ====
section
/-! DEFINITION. The statements for the provers, in the order of OBLIGATIONS.json, and the few notions they share. -/

namespace Sys2Proof.Claims

open Sys2Proof Sys2Proof.Machine

/-- The input length is within the capacity, so that no operation ends in `RANGE` at its first check (60_exceptions.md R194). -/
abbrev InRange (s : State) : Prop := s.op.ilen.toNat ≤ Config.inCap

/-- A frame's bytes and after them the checksum of those bytes, low byte first (20_memory.md R42). -/
def withCrc (head : List Byte) : List Byte := head ++ [(crc16 head).1, (crc16 head).2]

/-- The command completes with exactly these results; `CMD` holds its opcode, no buffer changes, nothing else is touched. -/
def EndsWith (i : Instr) (s : State) (r : Results) : Prop :=
  ∃ t, exec i s = .next t ∧ t.res = r ∧ t.cmd = opcodeOf i ∧ Untouched s t ∧ t.obuf = s.obuf ∧ t.vbuf = s.vbuf

/-- The command completes with an error: only `STATUS` is non-zero (60_exceptions.md R196). -/
def FailsWith (i : Instr) (s : State) (kind : Status) : Prop := EndsWith i s { Results.cleared with status := kind }

/-- The command completes with these bytes as its output: `R_OLEN` is their number, the other results are `r`, `CMD` holds the opcode, and
outside the bytes stored (indexes 0 up to their number) `OBUF` is as before; `VBUF` and everything else is untouched. -/
def Outputs (i : Instr) (s : State) (bytes : List Byte) (r : Results) : Prop :=
  ∃ t, exec i s = .next t ∧ outputBytes t = bytes ∧ t.res = { r with olen := BitVec.ofNat 32 bytes.length } ∧ t.cmd = opcodeOf i ∧
    Untouched s t ∧ t.vbuf = s.vbuf ∧ ∀ a, bytes.length ≤ a → Memory.read t.obuf a = Memory.read s.obuf a

/-- The command completes with these entries in `VBUF`: `R_VCNT` is their number, the other results are `r`, `CMD` holds the opcode, and
outside the entries stored `VBUF` is as before; `OBUF` and everything else is untouched. -/
def Lists (i : Instr) (s : State) (entries : List Word) (r : Results) : Prop :=
  ∃ t, exec i s = .next t ∧ outputEntries t = entries ∧ t.res = { r with vcnt := BitVec.ofNat 32 entries.length } ∧
    t.cmd = opcodeOf i ∧ Untouched s t ∧ t.obuf = s.obuf ∧ ∀ a, entries.length ≤ a → Memory.read t.vbuf a = Memory.read s.vbuf a

/-- A byte sequence with bit `j` of byte `k` inverted. -/
def flipBit (f : List Byte) (k j : Nat) : List Byte := f.set k ((f.getD k 0#8) ^^^ (1#8 <<< j))

/-- The checksum by a table of 256 entries: the "table-driven implementation" 40_crc.md R90 allows. -/
def crcByTable (bytes : List Byte) : Word :=
  bytes.foldl (fun c b => (c >>> 8) ^^^ crcShifts 8 ((lo8 c ^^^ b).setWidth 16)) crcInitial

/-- The forms of `RTU_BUILD` that build a frame, with their function codes. -/
def rtuForms : List (Instr × Byte) :=
  [(.rtuBuildFc01, 0x01#8), (.rtuBuildFc02, 0x02#8), (.rtuBuildFc03, 0x03#8), (.rtuBuildFc04, 0x04#8), (.rtuBuildFc05, 0x05#8),
   (.rtuBuildFc06, 0x06#8), (.rtuBuildFc0F, 0x0F#8), (.rtuBuildFc10, 0x10#8)]

/-- The forms of `TCP_BUILD_REQ` that build a frame, with their function codes. -/
def tcpForms : List (Instr × Byte) :=
  [(.tcpBuildReqFc01, 0x01#8), (.tcpBuildReqFc02, 0x02#8), (.tcpBuildReqFc03, 0x03#8), (.tcpBuildReqFc04, 0x04#8),
   (.tcpBuildReqFc05, 0x05#8), (.tcpBuildReqFc06, 0x06#8), (.tcpBuildReqFc0F, 0x0F#8), (.tcpBuildReqFc10, 0x10#8)]

/-- The seven bytes of the MBAP header, written out (30_encoding.md R70). -/
def mbap (tid pid length : Word) (unit : Byte) : List Byte := [hi8 tid, lo8 tid, hi8 pid, lo8 pid, hi8 length, lo8 length, unit]

/-- The results of a `TCP_BUILD_REQ` that succeeds: the operands, protocol id 0x0000, the length built, the display number
(43_tcp_build.md R130); `R_OLEN` is said beside them. -/
def requestResults (s : State) (length disp : Nat) : Results :=
  { Results.cleared with tid := s.op.tid, pid := 0x0000#16, len := BitVec.ofNat 16 length, station := s.op.station, fc := s.op.fc,
                         disp := BitVec.ofNat 32 disp }

/-- The statuses an operation can end with, by the table of 60_exceptions.md R193. -/
def statusesOf : Instr → List Status
  | .crc16 => [.ok, .range]
  | .crcValidate => [.ok, .range, .frameTooShort]
  | .rtuBuildFc01 | .rtuBuildFc02 | .rtuBuildFc03 | .rtuBuildFc04 | .rtuBuildFc05 | .rtuBuildFc06 => [.ok, .range]
  | .rtuBuildFc0F | .rtuBuildFc10 => [.ok, .range, .invalidDataLength]
  | .rtuBuildUnsupported => [.range, .unsupportedFunctionCode]
  | .rtuParse => [.ok, .range, .frameTooShort, .checksumMismatch]
  | .tcpBuildReqFc01 | .tcpBuildReqFc02 | .tcpBuildReqFc03 | .tcpBuildReqFc04 => [.ok, .range]
  | .tcpBuildReqFc05 | .tcpBuildReqFc06 | .tcpBuildReqFc0F | .tcpBuildReqFc10 => [.ok, .range, .invalidDataLength]
  | .tcpBuildReqUnsupported => [.range, .unsupportedFunctionCode]
  | .tcpBuildResp => [.ok, .range]
  | .tcpParse => [.ok, .range, .frameTooShort]
  | .getBits => [.ok, .range, .wrongResponseKind]
  | .getRegs => [.ok, .range, .wrongResponseKind, .invalidDataLength]
  | .illegalOp00 | .illegalOp0A0B _ | .illegalOp0C0F _ | .illegalOp101F _ | .illegalOp203F _ | .illegalOp407F _ | .illegalOp80FF _ =>
    [.illegalOp]

/-- The block part of the state: everything but the host's moves and answers. -/
structure SameBlock (s t : State) : Prop where
  op_eq : t.op = s.op
  cmd_eq : t.cmd = s.cmd
  res_eq : t.res = s.res
  ibuf_eq : t.ibuf = s.ibuf
  obuf_eq : t.obuf = s.obuf
  vbuf_eq : t.vbuf = s.vbuf
  resetCount_eq : t.resetCount = s.resetCount
  commandCount_eq : t.commandCount = s.commandCount

end Sys2Proof.Claims

open Sys2Proof Sys2Proof.Machine Sys2Proof.Claims

/-! Reset and the invariant. -/

/-- 10_state.md R25: after reset every register reads 0 and no byte of a buffer has been written. The values are the spec's own decision
(D19). -/
def Obligations.ResetRegistersReadZero : Prop :=
  (∀ r : Reg, readRegister State.reset r = 0#32) ∧ State.reset.res.status = .ok ∧ State.reset.ibuf = [] ∧ State.reset.obuf = [] ∧
    State.reset.vbuf = []

/-- The invariant `State.Inv` (Sys2Proof/Safety.lean) holds right after reset. -/
def Obligations.ResetMeetsInvariant : Prop := State.Inv State.reset

/-- Every step from a state that meets the invariant gives a state that meets it: buffers canonical and within capacity, lengths within
capacity and over written units, reserved bits zero, reserved status values never produced, an error leaves only `STATUS`. -/
def Obligations.StepKeepsInvariant : Prop := ∀ s t : State, State.Inv s → step s = .next t → State.Inv t

/-- 70_reset_and_hazards.md R210: the host's reset puts every register to its reset value from any state; the buffers' contents are then
unspecified (nothing is listed). The host's remaining moves and the answers it has are not the block's and stay. -/
def Obligations.HostResetFromAnyState : Prop :=
  ∀ (s : State) (rest : List HostMove), s.moves = .reset :: rest →
    ∃ t, step s = .next t ∧ (∀ r : Reg, readRegister t r = 0#32) ∧ t.ibuf = [] ∧ t.obuf = [] ∧ t.vbuf = [] ∧ t.moves = rest ∧
      t.answers = s.answers

/-! Decoding. -/

/-- 30_encoding.md R60, R61: decoding the encoding of a well-formed command, while `OP_FC` holds a value that selects its row, gives the
command back and leaves the bytes after it. -/
def Obligations.DecodeEncodeAgree : Prop :=
  ∀ (i : Instr) (fc : Byte) (rest : List Byte), i.wellFormed = true → selectedBy fc i = true →
    decode fc (encode i ++ rest) = .ok (i, rest)

/-- 30_encoding.md R61: whatever the bytes and `OP_FC`, what is decoded is a well-formed command of a row that `OP_FC` selects, and the bytes
are its encoding; every byte is the encoding of some command. -/
def Obligations.DecodedCommandIsItsEncoding : Prop :=
  (∀ (fc : Byte) (bytes : List Byte) (i : Instr) (rest : List Byte), decode fc bytes = .ok (i, rest) →
    i.wellFormed = true ∧ selectedBy fc i = true ∧ bytes = encode i ++ rest) ∧
  ∀ (fc op : Byte) (rest : List Byte), ∃ i, decode fc (op :: rest) = .ok (i, rest)

/-- Command bytes written out from 30_encoding.md R61 and R76, one per family. -/
def Obligations.SampleCommandBytesDecode : Prop :=
  decode 0x00#8 [0x01#8] = .ok (.crc16, []) ∧ decode 0x00#8 [0x02#8] = .ok (.crcValidate, []) ∧
  decode 0x0F#8 [0x03#8] = .ok (.rtuBuildFc0F, []) ∧ decode 0x07#8 [0x03#8] = .ok (.rtuBuildUnsupported, []) ∧
  decode 0x00#8 [0x04#8] = .ok (.rtuParse, []) ∧ decode 0x10#8 [0x05#8] = .ok (.tcpBuildReqFc10, []) ∧
  decode 0x00#8 [0x06#8] = .ok (.tcpBuildResp, []) ∧ decode 0x00#8 [0x07#8] = .ok (.tcpParse, []) ∧
  decode 0x00#8 [0x08#8] = .ok (.getBits, []) ∧ decode 0x00#8 [0x09#8] = .ok (.getRegs, []) ∧
  decode 0x00#8 [0x0A#8] = .ok (.illegalOp0A0B 0x0A#8, []) ∧ decode 0x00#8 [0xFF#8] = .ok (.illegalOp80FF 0xFF#8, [])

/-- A step runs the decoded command: when the host's next move writes a byte to `CMD` and the byte decodes, with the current `OP_FC`, to a
command, the step is that command's meaning after the move is taken off the host's list (10_state.md R20). -/
def Obligations.StepRunsTheDecodedCommand : Prop :=
  ∀ (s : State) (op : Byte) (rest : List HostMove) (i : Instr), s.moves = .writeReg 0x08 op.toNat :: rest →
    decode s.op.fc [op] = .ok (i, []) → step s = exec i { s with moves := rest }

/-- The model's convention of log 2: placing a table word makes the very next step run the instruction the word decodes to, in the state as it
was but for the `OP_FC` that chooses among the forms of the two packers. -/
def Obligations.FetchWordRunsTheTableWord : Prop :=
  ∀ (s : State) (nbits w : Nat) (i : Instr), decodeTableWord nbits w = some i →
    step (s.withFetchWord nbits w) =
      exec i { s with op := if hasForms (opcodeOf i) then { s.op with fc := tableWordFc nbits w } else s.op }

/-- 60_exceptions.md R205: with no move of the host pending the block is idle and holds its state. -/
def Obligations.IdleBlockHoldsItsState : Prop := ∀ s : State, s.moves = [] → step s = .next s

/-! The checksum. -/

/-- 40_crc.md R94: (a) a sequence followed by its checksum validates; (b) with any one bit inverted, in the sequence or in the checksum, it
does not. -/
def Obligations.ChecksumDetectsEverySingleBitError : Prop :=
  (∀ b : List Byte, crcOk (withCrc b) = some true) ∧
  ∀ (b : List Byte) (k j : Nat), k < b.length + 2 → j < 8 → crcOk (flipBit (withCrc b) k j) = some false

/-- 40_crc.md R90: the bit-serial procedure and a table-driven one agree on every byte sequence. The procedure itself is from general knowledge
(the spec's decision D7, log 11). -/
def Obligations.TableDrivenChecksumAgrees : Prop := ∀ b : List Byte, crcByTable b = crcRegister b

/-- 40_crc.md R91: `CRC16` returns the checksum of the input bytes in `R_CRC`, writes no flag and no buffer, and fails only for
`OP_ILEN > IN_CAP`, which is `RANGE` (the spec's decision D29, log 13). -/
def Obligations.Crc16ReturnsTheChecksum : Prop :=
  ∀ s : State,
    (InRange s → EndsWith .crc16 s { Results.cleared with crc := u16be (crc16 (inputBytes s)).2 (crc16 (inputBytes s)).1 }) ∧
    (¬ InRange s → FailsWith .crc16 s .range)

/-- 40_crc.md R93: `CRC_VALIDATE` sets `VALID` exactly when the last two bytes are the checksum of the bytes before them, low byte first, and
returns the recomputed checksum; fewer than two bytes are `FRAME_TOO_SHORT` (the spec's decision D8). -/
def Obligations.CrcValidateComparesTheTrailingBytes : Prop :=
  ∀ s : State, InRange s →
    (∀ (body : List Byte) (a b : Byte), inputBytes s = body ++ [a, b] →
      EndsWith .crcValidate s
        { Results.cleared with crc := u16be (crc16 body).2 (crc16 body).1, flags := if (a, b) = crc16 body then 0x01#8 else 0x00#8 }) ∧
    (s.op.ilen.toNat < 2 → FailsWith .crcValidate s .frameTooShort)

/-! `RTU_BUILD`. -/

/-- 41_rtu_build.md R101 to R104, R106: the four read requests and the single-register write build
`[st, fc, addr_hi, addr_lo, lv_hi, lv_lo, crc_lo, crc_hi]`, whatever the data operands are (nothing is range-checked: the spec's decision D14, log 13), and have no failure but `RANGE`, for
`OP_ILEN > IN_CAP` (D29, log 13). -/
def Obligations.RtuReadAndSingleRegisterFrames : Prop :=
  ∀ s : State, ∀ p ∈ [(Instr.rtuBuildFc01, 0x01#8), (.rtuBuildFc02, 0x02#8), (.rtuBuildFc03, 0x03#8), (.rtuBuildFc04, 0x04#8),
      (.rtuBuildFc06, 0x06#8)], s.op.fc = p.2 →
    (InRange s →
      Outputs p.1 s (withCrc [s.op.station, p.2, hi8 s.op.addr, lo8 s.op.addr, hi8 s.op.lv, lo8 s.op.lv])
        { Results.cleared with
            station := s.op.station, fc := p.2,
            crc := crcRegister [s.op.station, p.2, hi8 s.op.addr, lo8 s.op.addr, hi8 s.op.lv, lo8 s.op.lv] }) ∧
    (¬ InRange s → FailsWith p.1 s .range)

/-- 41_rtu_build.md R105: the single-coil write carries `FF 00` when `OP_LV` is zero and `00 00` otherwise; `OP_ILEN > IN_CAP` is
`RANGE` (the spec's decision D29, log 13). -/
def Obligations.RtuSingleCoilFrame : Prop :=
  ∀ s : State, s.op.fc = 0x05#8 →
    (InRange s → ∀ v : Byte, v = (if s.op.lv = 0#16 then 0xFF#8 else 0x00#8) →
      Outputs .rtuBuildFc05 s (withCrc [s.op.station, 0x05#8, hi8 s.op.addr, lo8 s.op.addr, v, 0x00#8])
        { Results.cleared with
            station := s.op.station, fc := 0x05#8,
            crc := crcRegister [s.op.station, 0x05#8, hi8 s.op.addr, lo8 s.op.addr, v, 0x00#8] }) ∧
    (¬ InRange s → FailsWith .rtuBuildFc05 s .range)

/-- 41_rtu_build.md R107, R111, R112: the multiple-coil write; the byte count is `ceil(count/8)`; absent data is reported before a byte count
above 255 (the spec's decisions D9, D11, D12). -/
def Obligations.RtuMultipleCoilsFrame : Prop :=
  ∀ s : State, InRange s → s.op.fc = 0x0F#8 →
    (s.op.dpres = 0#1 → FailsWith .rtuBuildFc0F s .invalidDataLength) ∧
    (s.op.dpres = 1#1 → 2040 < s.op.lv.toNat → FailsWith .rtuBuildFc0F s .range) ∧
    (s.op.dpres = 1#1 → s.op.lv.toNat ≤ 2040 → ∀ head : List Byte,
      head = [s.op.station, 0x0F#8, hi8 s.op.addr, lo8 s.op.addr, hi8 s.op.lv, lo8 s.op.lv, BitVec.ofNat 8 ((s.op.lv.toNat + 7) / 8)]
        ++ inputBytes s →
      Outputs .rtuBuildFc0F s (withCrc head)
        { Results.cleared with station := s.op.station, fc := 0x0F#8, crc := crcRegister head })

/-- 41_rtu_build.md R108, R111, R112: the multiple-register write; the count is `OP_LV` as given and the byte count is the data length; empty
and odd data are accepted (the spec's decisions D9, D11, D12). -/
def Obligations.RtuMultipleRegistersFrame : Prop :=
  ∀ s : State, s.op.fc = 0x10#8 →
    (InRange s → s.op.dpres = 0#1 → FailsWith .rtuBuildFc10 s .invalidDataLength) ∧
    (s.op.dpres = 1#1 → 255 < s.op.ilen.toNat → FailsWith .rtuBuildFc10 s .range) ∧
    (s.op.dpres = 1#1 → s.op.ilen.toNat ≤ 255 → ∀ head : List Byte,
      head = [s.op.station, 0x10#8, hi8 s.op.addr, lo8 s.op.addr, hi8 s.op.lv, lo8 s.op.lv, BitVec.ofNat 8 s.op.ilen.toNat]
        ++ inputBytes s →
      Outputs .rtuBuildFc10 s (withCrc head)
        { Results.cleared with station := s.op.station, fc := 0x10#8, crc := crcRegister head })

/-- 41_rtu_build.md R109: any other function code fails, whatever the data operands are. -/
def Obligations.RtuUnsupportedFunctionCodeFails : Prop :=
  ∀ s : State, InRange s → s.op.fc ∉ [0x01#8, 0x02#8, 0x03#8, 0x04#8, 0x05#8, 0x06#8, 0x0F#8, 0x10#8] →
    decodeOpcode s.op.fc 0x03#8 = .rtuBuildUnsupported ∧ FailsWith .rtuBuildUnsupported s .unsupportedFunctionCode

/-! `RTU_PARSE`. -/

/-- 42_rtu_parse.md R123: of every frame whose checksum is right, station and function code are the first two bytes, copied as found, whatever
they are and whatever follows them. -/
def Obligations.RtuParseCopiesTheEnvelope : Prop :=
  ∀ s : State, InRange s → ∀ (st fc : Byte) (others : List Byte), inputBytes s = withCrc ([st, fc] ++ others) →
    ∃ t, exec .rtuParse s = .next t ∧ t.res.status = .ok ∧ t.res.station = st ∧ t.res.fc = fc

/-- 42_rtu_parse.md R124 to R126: of a frame whose checksum is right and whose payload fits, the payload is the counted bytes after offset 2,
the four bytes at offset 2, or nothing, by the function code; surplus bytes before the checksum are ignored without a flag. -/
def Obligations.RtuParseExtractsThePayload : Prop :=
  ∀ s : State, InRange s → ∀ (st fc : Byte) (extra : List Byte),
    (fc ∈ [0x01#8, 0x02#8, 0x03#8, 0x04#8] → ∀ (n : Byte) (data : List Byte), data.length = n.toNat →
      inputBytes s = withCrc ([st, fc, n] ++ data ++ extra) →
      Outputs .rtuParse s data
        { Results.cleared with station := st, fc := fc, crc := crcRegister ([st, fc, n] ++ data ++ extra) }) ∧
    (fc ∈ [0x05#8, 0x06#8, 0x0F#8, 0x10#8] → ∀ d0 d1 d2 d3 : Byte, inputBytes s = withCrc ([st, fc, d0, d1, d2, d3] ++ extra) →
      Outputs .rtuParse s [d0, d1, d2, d3]
        { Results.cleared with station := st, fc := fc, crc := crcRegister ([st, fc, d0, d1, d2, d3] ++ extra) }) ∧
    (fc ∉ supportedFunctionCodes → inputBytes s = withCrc ([st, fc] ++ extra) →
      Outputs .rtuParse s [] { Results.cleared with station := st, fc := fc, crc := crcRegister ([st, fc] ++ extra) })

/-- 42_rtu_parse.md R127: a payload that would reach the checksum is clamped there and `TRUNC` is set; no checksum byte appears in it. The
clamp is the spec's decision D10 (log 12). -/
def Obligations.RtuParseClampsAtTheChecksum : Prop :=
  ∀ s : State, InRange s → ∀ (st fc : Byte) (data : List Byte),
    (fc ∈ [0x01#8, 0x02#8, 0x03#8, 0x04#8] → ∀ n : Byte, data.length < n.toNat → inputBytes s = withCrc ([st, fc, n] ++ data) →
      Outputs .rtuParse s data
        { Results.cleared with station := st, fc := fc, flags := 0x02#8, crc := crcRegister ([st, fc, n] ++ data) }) ∧
    (fc ∈ [0x01#8, 0x02#8, 0x03#8, 0x04#8] → inputBytes s = withCrc [st, fc] →
      Outputs .rtuParse s [] { Results.cleared with station := st, fc := fc, flags := 0x02#8, crc := crcRegister [st, fc] }) ∧
    (fc ∈ [0x05#8, 0x06#8, 0x0F#8, 0x10#8] → data.length < 4 → inputBytes s = withCrc ([st, fc] ++ data) →
      Outputs .rtuParse s data
        { Results.cleared with station := st, fc := fc, flags := 0x02#8, crc := crcRegister ([st, fc] ++ data) })

/-- 42_rtu_parse.md R121, R122: fewer than four bytes are `FRAME_TOO_SHORT`; four or more whose last two are not the checksum of the others are
`CHECKSUM_MISMATCH` (the order is the spec's decision D9). -/
def Obligations.RtuParseRejectsBadFrames : Prop :=
  ∀ s : State, InRange s →
    (s.op.ilen.toNat < 4 → FailsWith .rtuParse s .frameTooShort) ∧
    (∀ (body : List Byte) (a b : Byte), inputBytes s = body ++ [a, b] → 2 ≤ body.length → (a, b) ≠ crc16 body →
      FailsWith .rtuParse s .checksumMismatch)

/-- 42_rtu_parse.md R128: parsing a frame that `RTU_BUILD` built recovers the station and the function code, for every supported function code
and all operands. The parse needs the frame to fit `IBUF` again: the rule does not say so (log 16). -/
def Obligations.RtuRequestParsesBack : Prop :=
  ∀ p ∈ rtuForms, ∀ s t u : State, s.op.fc = p.2 → exec p.1 s = .next t → t.res.status = .ok → InRange u →
    inputBytes u = outputBytes t →
    ∃ v, exec .rtuParse u = .next v ∧ v.res.status = .ok ∧ v.res.station = s.op.station ∧ v.res.fc = s.op.fc

/-! `TCP_BUILD_REQ`. -/

/-- 43_tcp_build.md R131 to R134: the four read requests; `length` is 6, the frame 12 bytes, the display number by the register kind (R143, the
spec's decision D16); `OP_ILEN > IN_CAP` is `RANGE` (D29, log 13). -/
def Obligations.TcpReadRequestFrames : Prop :=
  ∀ s : State, ∀ p ∈ [(Instr.tcpBuildReqFc01, 0x01#8, 1), (.tcpBuildReqFc02, 0x02#8, 10001), (.tcpBuildReqFc03, 0x03#8, 40001),
      (.tcpBuildReqFc04, 0x04#8, 30001)], s.op.fc = p.2.1 →
    (InRange s →
      Outputs p.1 s
        (mbap s.op.tid 0#16 6#16 s.op.station ++ [p.2.1, hi8 s.op.addr, lo8 s.op.addr, hi8 s.op.lv, lo8 s.op.lv])
        (requestResults s 6 (s.op.addr.toNat + p.2.2))) ∧
    (¬ InRange s → FailsWith p.1 s .range)

/-- 43_tcp_build.md R136: the single-coil write, for both readings of `TCP_SW_VALUE_SRC` (D13, log 4); absent data or fewer than two data bytes
fail. -/
def Obligations.TcpSingleCoilFrame : Prop :=
  ∀ s : State, InRange s → s.op.fc = 0x05#8 →
    (s.op.dpres = 0#1 ∨ s.op.ilen.toNat < 2 → FailsWith .tcpBuildReqFc05 s .invalidDataLength) ∧
    (∀ (d0 d1 : Byte) (surplus : List Byte), s.op.dpres = 1#1 → inputBytes s = d0 :: d1 :: surplus → ∀ v0 v1 : Byte,
      (Config.tcpSwValueSrc = .data → v0 = d0 ∧ v1 = d1) →
      (Config.tcpSwValueSrc = .length → v0 = (if s.op.lv = 0#16 then 0xFF#8 else 0x00#8) ∧ v1 = 0x00#8) →
      Outputs .tcpBuildReqFc05 s (mbap s.op.tid 0#16 6#16 s.op.station ++ [0x05#8, hi8 s.op.addr, lo8 s.op.addr, v0, v1])
        (requestResults s 6 (s.op.addr.toNat + 1)))

/-- 43_tcp_build.md R137: the single-register write, for both readings of `TCP_SW_VALUE_SRC` (D13, log 4); absent data or fewer than two data
bytes fail. -/
def Obligations.TcpSingleRegisterFrame : Prop :=
  ∀ s : State, InRange s → s.op.fc = 0x06#8 →
    (s.op.dpres = 0#1 ∨ s.op.ilen.toNat < 2 → FailsWith .tcpBuildReqFc06 s .invalidDataLength) ∧
    (∀ (d0 d1 : Byte) (surplus : List Byte), s.op.dpres = 1#1 → inputBytes s = d0 :: d1 :: surplus → ∀ v0 v1 : Byte,
      (Config.tcpSwValueSrc = .data → v0 = d0 ∧ v1 = d1) →
      (Config.tcpSwValueSrc = .length → v0 = hi8 s.op.lv ∧ v1 = lo8 s.op.lv) →
      Outputs .tcpBuildReqFc06 s (mbap s.op.tid 0#16 6#16 s.op.station ++ [0x06#8, hi8 s.op.addr, lo8 s.op.addr, v0, v1])
        (requestResults s 6 (s.op.addr.toNat + 40001)))

/-- 43_tcp_build.md R138, R142: the multiple-coil write; the byte count is the data length, present and empty data is legal; absent data is
reported before a byte count above 255 (D9, D11, D12). -/
def Obligations.TcpMultipleCoilsFrame : Prop :=
  ∀ s : State, s.op.fc = 0x0F#8 →
    (InRange s → s.op.dpres = 0#1 → FailsWith .tcpBuildReqFc0F s .invalidDataLength) ∧
    (s.op.dpres = 1#1 → 255 < s.op.ilen.toNat → FailsWith .tcpBuildReqFc0F s .range) ∧
    (s.op.dpres = 1#1 → s.op.ilen.toNat ≤ 255 →
      Outputs .tcpBuildReqFc0F s
        (mbap s.op.tid 0#16 (BitVec.ofNat 16 (7 + s.op.ilen.toNat)) s.op.station
          ++ [0x0F#8, hi8 s.op.addr, lo8 s.op.addr, hi8 s.op.lv, lo8 s.op.lv, BitVec.ofNat 8 s.op.ilen.toNat] ++ inputBytes s)
        (requestResults s (7 + s.op.ilen.toNat) (s.op.addr.toNat + 1)))

/-- 43_tcp_build.md R139: the multiple-register write; the register count is half the data length, whatever `OP_LV` holds; absent, empty or odd
data fails before a byte count above 255 (D9, D12). -/
def Obligations.TcpMultipleRegistersFrame : Prop :=
  ∀ s : State, s.op.fc = 0x10#8 →
    (InRange s → s.op.dpres = 0#1 ∨ s.op.ilen.toNat = 0 ∨ s.op.ilen.toNat % 2 = 1 → FailsWith .tcpBuildReqFc10 s .invalidDataLength) ∧
    (s.op.dpres = 1#1 → s.op.ilen.toNat % 2 = 0 → 255 < s.op.ilen.toNat → FailsWith .tcpBuildReqFc10 s .range) ∧
    (s.op.dpres = 1#1 → s.op.ilen.toNat % 2 = 0 → 0 < s.op.ilen.toNat → s.op.ilen.toNat ≤ 255 → ∀ count : Word,
      count.toNat * 2 = s.op.ilen.toNat →
      Outputs .tcpBuildReqFc10 s
        (mbap s.op.tid 0#16 (BitVec.ofNat 16 (7 + s.op.ilen.toNat)) s.op.station
          ++ [0x10#8, hi8 s.op.addr, lo8 s.op.addr, hi8 count, lo8 count, BitVec.ofNat 8 s.op.ilen.toNat] ++ inputBytes s)
        (requestResults s (7 + s.op.ilen.toNat) (s.op.addr.toNat + 40001)))

/-- 43_tcp_build.md R141: any other function code fails, whatever the data operands are. -/
def Obligations.TcpUnsupportedFunctionCodeFails : Prop :=
  ∀ s : State, InRange s → s.op.fc ∉ [0x01#8, 0x02#8, 0x03#8, 0x04#8, 0x05#8, 0x06#8, 0x0F#8, 0x10#8] →
    decodeOpcode s.op.fc 0x05#8 = .tcpBuildReqUnsupported ∧ FailsWith .tcpBuildReqUnsupported s .unsupportedFunctionCode

/-! `TCP_BUILD_RESP` and `TCP_PARSE`. -/

/-- 43_tcp_build.md R140: the response frame; every function code, every protocol id and any data is copied as given (no check of the function
code: the spec's decision D14, log 13); the one failure is `RANGE`, for `OP_ILEN > IN_CAP` (D29, log 13). -/
def Obligations.TcpResponseFrame : Prop :=
  ∀ s : State,
    (InRange s →
      Outputs .tcpBuildResp s
        (mbap s.op.tid s.op.pid (BitVec.ofNat 16 (2 + s.op.ilen.toNat)) s.op.station ++ [s.op.fc] ++ inputBytes s)
        { Results.cleared with
            tid := s.op.tid, pid := s.op.pid, len := BitVec.ofNat 16 (2 + s.op.ilen.toNat), station := s.op.station, fc := s.op.fc }) ∧
    (¬ InRange s → FailsWith .tcpBuildResp s .range)

/-- 44_tcp_parse.md R150, R151: of twelve or more bytes the seven header fields, big-endian; of fewer, `FRAME_TOO_SHORT` and no field; more
than `IN_CAP` bytes are `RANGE` (the spec's decision D29, log 13). -/
def Obligations.TcpParseExtractsTheHeader : Prop :=
  ∀ s : State,
    (s.op.ilen.toNat < 12 → FailsWith .tcpParse s .frameTooShort) ∧
    (InRange s → ∀ (tid pid length addr qty : Word) (st fc : Byte) (surplus : List Byte),
      inputBytes s = [hi8 tid, lo8 tid, hi8 pid, lo8 pid, hi8 length, lo8 length, st, fc, hi8 addr, lo8 addr, hi8 qty, lo8 qty] ++ surplus →
      EndsWith .tcpParse s
        { Results.cleared with
            tid := tid, pid := pid, len := length, station := st, fc := fc, addr := addr, qty := qty }) ∧
    (¬ InRange s → FailsWith .tcpParse s .range)

/-- 43_tcp_build.md R130, R144 with 44_tcp_parse.md R150: parsing a frame that `TCP_BUILD_REQ` built recovers transaction id, protocol id 0, the
length built, station, function code and address, for every supported function code and all operands; of `R_QTY` it says nothing. The parse
needs the frame to fit `IBUF` again: the rules do not say so (log 16). -/
def Obligations.TcpRequestParsesBack : Prop :=
  ∀ p ∈ tcpForms, ∀ s t u : State, s.op.fc = p.2 → exec p.1 s = .next t → t.res.status = .ok → InRange u →
    inputBytes u = outputBytes t →
    ∃ v, exec .tcpParse u = .next v ∧ v.res.status = .ok ∧ v.res.tid = s.op.tid ∧ v.res.pid = 0#16 ∧ v.res.len = t.res.len ∧
      v.res.station = s.op.station ∧ v.res.fc = s.op.fc ∧ v.res.addr = s.op.addr

/-! Typed extraction. -/

/-- 45_typed_extraction.md R160: element `8*i + j` of the bit array is bit `j` of byte `i`, and there are `8 * len(p)` elements. -/
def Obligations.BitArrayIsLeastSignificantFirst : Prop :=
  ∀ p : List Byte, (bits p).length = 8 * p.length ∧
    ∀ (i j : Nat) (hi : i < p.length), j < 8 → (bits p)[8 * i + j]? = some (p[i].getLsbD j)

/-- 45_typed_extraction.md R162: register `j` of an even payload is bytes `2j` and `2j + 1`, the first the more significant. -/
def Obligations.RegisterArrayPairsBigEndian : Prop :=
  ∀ p : List Byte, p.length % 2 = 0 → (regs p).length = p.length / 2 ∧
    ∀ (j : Nat) (h : 2 * j + 1 < p.length),
      ∃ v : Word, (regs p)[j]? = some v ∧ v.toNat = (p[2 * j]'(by omega)).toNat * 256 + p[2 * j + 1].toNat

/-- 45_typed_extraction.md R161: `GET_BITS` for function codes 0x01 and 0x02; every other function code is `WRONG_RESPONSE_KIND`; an input
length above `IN_CAP` is `RANGE` (the spec's decision D29, log 13). -/
def Obligations.GetBitsListsTheBits : Prop :=
  ∀ s : State,
    (InRange s → s.op.fc = 0x01#8 ∨ s.op.fc = 0x02#8 →
      Lists .getBits s ((bits (inputBytes s)).map fun b => if b then 0x0001#16 else 0x0000#16)
        { Results.cleared with fc := s.op.fc }) ∧
    (InRange s → s.op.fc ≠ 0x01#8 → s.op.fc ≠ 0x02#8 → FailsWith .getBits s .wrongResponseKind) ∧
    (¬ InRange s → FailsWith .getBits s .range)

/-- 45_typed_extraction.md R163: `GET_REGS` for function codes 0x03 and 0x04; every other function code is `WRONG_RESPONSE_KIND`, reported
before a payload of odd length (the spec's decision D15). -/
def Obligations.GetRegsListsTheRegisters : Prop :=
  ∀ s : State, InRange s →
    (s.op.fc = 0x03#8 ∨ s.op.fc = 0x04#8 → s.op.ilen.toNat % 2 = 0 →
      Lists .getRegs s (regs (inputBytes s)) { Results.cleared with fc := s.op.fc }) ∧
    (s.op.fc = 0x03#8 ∨ s.op.fc = 0x04#8 → s.op.ilen.toNat % 2 = 1 → FailsWith .getRegs s .invalidDataLength) ∧
    (s.op.fc ≠ 0x03#8 → s.op.fc ≠ 0x04#8 → FailsWith .getRegs s .wrongResponseKind)

/-! Every command. -/

/-- 30_encoding.md R76: an opcode that is not an operation is stored in `CMD`, clears the results, sets `STATUS` to `ILLEGAL_OP` and does
nothing else, whatever the operands are (the spec's decision D21). -/
def Obligations.IllegalOpcodesOnlySetStatus : Prop :=
  ∀ (i : Instr) (s : State), isOperation i = false → FailsWith i s .illegalOp

/-- 60_exceptions.md R194, item 2: `OP_ILEN > IN_CAP` is `RANGE` in every operation, before any other test (the spec's decisions D9, D29). -/
def Obligations.InputTooLongIsRangeFirst : Prop :=
  ∀ (i : Instr) (s : State), isOperation i = true → ¬ InRange s → FailsWith i s .range

/-- 60_exceptions.md R197, 70_reset_and_hazards.md R216: every command of every state ends in a next state; no error is fatal. -/
def Obligations.EveryCommandEndsInANextState : Prop := ∀ (i : Instr) (s : State), ∃ t, exec i s = .next t

/-- 10_state.md R29, R20: no command writes an operand register or a byte of `IBUF`; `CMD` holds the command's opcode (the spec's decision
D2). -/
def Obligations.CommandsLeaveOperandsAndInput : Prop :=
  ∀ (i : Instr) (s t : State), exec i s = .next t → Untouched s t ∧ t.cmd = opcodeOf i ∧ ∀ a, ibufByte t a = ibufByte s a

/-- The memory frame of every command: the units stored are those below `R_OLEN` in `OBUF` and below `R_VCNT` in `VBUF`, and every other unit
is as before (00_scope.md, section 6, `emit` and `emitv`); an error stores nothing. -/
def Obligations.CommandsStoreOnlyTheirOutput : Prop :=
  ∀ (i : Instr) (s t : State), exec i s = .next t →
    (∀ a, t.res.olen.toNat ≤ a → Memory.read t.obuf a = Memory.read s.obuf a) ∧
    (∀ a, t.res.vcnt.toNat ≤ a → Memory.read t.vbuf a = Memory.read s.vbuf a)

/-- 60_exceptions.md R196: after an error `STATUS` is the code, every other result register is 0 and no buffer has changed (the spec's decision
D6). -/
def Obligations.ErrorsLeaveOnlyStatus : Prop :=
  ∀ (i : Instr) (s t : State), exec i s = .next t → t.res.status ≠ .ok →
    t.res = { Results.cleared with status := t.res.status } ∧ t.obuf = s.obuf ∧ t.vbuf = s.vbuf

/-- 60_exceptions.md R193: the statuses each operation can end with; so no other value of `STATUS` is ever produced (30_encoding.md R78). -/
def Obligations.OperationsEndWithTheirOwnStatuses : Prop :=
  ∀ (i : Instr) (s t : State), exec i s = .next t → t.res.status ∈ statusesOf i

/-- 10_state.md R13: `VALID` is set by `CRC_VALIDATE` only, `TRUNC` by `RTU_PARSE` only, and bits 7:2 of `R_FLAGS` by nothing. -/
def Obligations.FlagsAreSetByTheirOperationOnly : Prop :=
  ∀ (i : Instr) (s t : State), exec i s = .next t →
    (flagValid t.res.flags = true → i = .crcValidate) ∧ (flagTrunc t.res.flags = true → i = .rtuParse) ∧
      ∀ k, 2 ≤ k → t.res.flags.getLsbD k = false

/-- 00_scope.md R6, 30_encoding.md R62: what a command leaves for the host (results, output bytes, entries) depends on the operand registers
its row marks as read and, where its row reads `IBUF`, on the input bytes, and on nothing else. (The input bytes are asked to agree by the row, also where the data is
absent or `TCP_SW_VALUE_SRC` is LENGTH and the form does not look at them.) -/
def Obligations.CommandsDependOnTheirOperandsOnly : Prop :=
  ∀ (i : Instr) (s₁ s₂ : State), agreeOnRead i s₁.op s₂.op → (readsInput i = true → inputBytes s₁ = inputBytes s₂) →
    ∃ t₁ t₂, exec i s₁ = .next t₁ ∧ exec i s₂ = .next t₂ ∧ t₁.res = t₂.res ∧ outputBytes t₁ = outputBytes t₂ ∧
      outputEntries t₁ = outputEntries t₂

/-- 43_tcp_build.md R143: the display number by the register kind of the function code, never wrapped; every other function code shows the
plain address (the spec's decision D16). -/
def Obligations.DisplayNumberByRegisterKind : Prop :=
  ∀ (fc : Byte) (addr : Word),
    (fc ∈ [0x01#8, 0x05#8, 0x0F#8] → displayAddress fc addr = addr.toNat + 1) ∧
    (fc = 0x02#8 → displayAddress fc addr = addr.toNat + 10001) ∧
    (fc = 0x04#8 → displayAddress fc addr = addr.toNat + 30001) ∧
    (fc ∈ [0x03#8, 0x06#8, 0x10#8] → displayAddress fc addr = addr.toNat + 40001) ∧
    (fc ∉ supportedFunctionCodes → displayAddress fc addr = addr.toNat) ∧
    (BitVec.ofNat 32 (displayAddress fc addr)).toNat = displayAddress fc addr ∧ displayAddress fc addr ≤ 105536

/-- 20_memory.md R41: the byte-order helpers every 16-bit field goes through: the high byte is the value divided by 256, the low byte the
remainder, and joining the two gives the value back. -/
def Obligations.BigEndianHelpersSplitAndJoin : Prop :=
  ∀ v : Word, be16 v = [hi8 v, lo8 v] ∧ (hi8 v).toNat = v.toNat / 256 ∧ (lo8 v).toNat = v.toNat % 256 ∧ u16be (hi8 v) (lo8 v) = v

/-! Host moves. -/

/-- 10_state.md R28, 20_memory.md R50: a move the access rights allow always succeeds; every other move is refused (the spec's decision D20,
log 8). Writes to result registers, `OBUF` and `VBUF` count as allowed: that they succeed, ignored, is the model's choice (log 9), since R28
says ignored while D20 and 93_implementation_defined.md U11 list them among what a model refuses. -/
def Obligations.AllowedMovesSucceedOthersAreRefused : Prop :=
  ∀ (s : State) (m : HostMove) (rest : List HostMove), s.moves = m :: rest →
    (m.allowed = true → ∃ t, step s = .next t) ∧ (m.allowed = false → ∃ r, step s = .refused r)

/-- 20_memory.md R48: a host write to an operand register is read back there and changes no other register and no buffer. -/
def Obligations.OperandWriteChangesOneRegister : Prop :=
  ∀ (s : State) (r : Reg) (v : Nat) (rest : List HostMove), regNumber r < 8 → v < 2 ^ regWidth r →
    s.moves = .writeReg (regNumber r) v :: rest →
    ∃ t, step s = .next t ∧ readRegister t r = BitVec.ofNat 32 v ∧ (∀ r', r' ≠ r → readRegister t r' = readRegister s r') ∧
      t.res = s.res ∧ t.ibuf = s.ibuf ∧ t.obuf = s.obuf ∧ t.vbuf = s.vbuf ∧ t.moves = rest ∧ t.answers = s.answers ∧
      t.resetCount = s.resetCount ∧ t.commandCount = s.commandCount

/-- 20_memory.md R48: a host write to `IBUF` is read back there and changes no other byte, register or buffer. -/
def Obligations.InputWriteChangesOneByte : Prop :=
  ∀ (s : State) (i : Nat) (b : Byte) (rest : List HostMove), i < Config.inCap → s.moves = .writeIbuf i b :: rest →
    ∃ t, step s = .next t ∧ ibufByte t i = b ∧ (∀ a, a ≠ i → ibufByte t a = ibufByte s a) ∧ t.op = s.op ∧ t.cmd = s.cmd ∧
      t.res = s.res ∧ t.obuf = s.obuf ∧ t.vbuf = s.vbuf ∧ t.moves = rest ∧ t.answers = s.answers ∧ t.resetCount = s.resetCount ∧
      t.commandCount = s.commandCount

/-- 20_memory.md R48: host reads of registers and buffers return what is there and change nothing of the block, so a second read returns the
same; the answer is the model's own record (log 10). -/
def Obligations.HostReadsChangeNothing : Prop :=
  ∀ (s : State) (rest : List HostMove) (m : HostMove) (v : BitVec 32), s.moves = m :: rest →
    ((∃ r : Reg, m = .readReg (regNumber r) ∧ v = readRegister s r) ∨
      (∃ i, i < Config.inCap ∧ m = .readIbuf i ∧ v = (ibufByte s i).setWidth 32) ∨
      (∃ i, i < Config.outCap ∧ m = .readObuf i ∧ v = (obufByte s i).setWidth 32) ∨
      (∃ i, i < Config.valCap ∧ m = .readVbuf i ∧ v = (vbufEntry s i).setWidth 32)) →
    ∃ t, step s = .next t ∧ SameBlock s t ∧ t.moves = rest ∧ t.answers = s.answers ++ [v]

/-- 10_state.md R14, R22, R23, R28: a host write to a result register, to `OBUF` or to `VBUF` is ignored and changes nothing. That
the model follows this and does not refuse the write, as D20 and 93_implementation_defined.md U11 have it, is its choice (log 9). -/
def Obligations.ReadOnlyWritesAreIgnored : Prop :=
  ∀ (s : State) (rest : List HostMove) (m : HostMove), s.moves = m :: rest →
    ((∃ (r : Reg) (v : Nat), 0x10 ≤ regNumber r ∧ v < 2 ^ regWidth r ∧ m = .writeReg (regNumber r) v) ∨
      (∃ (i : Nat) (b : Byte), i < Config.outCap ∧ m = .writeObuf i b) ∨
      (∃ (i : Nat) (v : Word), i < Config.valCap ∧ m = .writeVbuf i v)) →
    step s = .next { s with moves := rest }

/-- 70_reset_and_hazards.md R213: the results stay readable and unchanged until the next write to `CMD` (or a reset): every other move leaves
the result registers and the output alone (the spec's decision D6). -/
def Obligations.ResultsLastUntilTheNextCommand : Prop :=
  ∀ (s t : State) (m : HostMove) (rest : List HostMove), s.moves = m :: rest → startedOpcode m = none → m ≠ .reset →
    step s = .next t → t.res = s.res ∧ t.cmd = s.cmd ∧ outputBytes t = outputBytes s ∧ outputEntries t = outputEntries s ∧
      t.obuf = s.obuf ∧ t.vbuf = s.vbuf

/-- 30_encoding.md R84, R85: running a `COPY` line to its end puts the output bytes into `IBUF` and their number into `OP_ILEN`, and leaves the
results and the output alone (log 20). An output longer than `IN_CAP` is left out: `IBUF` does not hold it, and the moves are refused
(10_state.md R28, log 8). -/
def Obligations.CopyLineMakesTheOutputTheInput : Prop :=
  ∀ s : State, s.moves = [] → s.res.olen.toNat ≤ Config.inCap → s.res.olen.toNat ≤ Config.outCap →
    ∃ t : State, Host.Core.run Sys2Proof.core (copyMoves s).length (placeLine .copy s) = .next t ∧ inputBytes t = outputBytes s ∧
      t.op = { s.op with ilen := BitVec.ofNat 16 s.res.olen.toNat } ∧ t.res = s.res ∧ t.obuf = s.obuf ∧ t.vbuf = s.vbuf ∧ t.moves = []

/-! The host-side resolver. -/

/-- 48_host_address_resolver.md R175: prefix 1 is a coil, 2 a discrete input, 3 an input register, 4 a holding register; the digits after it,
of a value in [1, 65535], give the protocol address, that value minus 1; when the prefix or the digits or the range fail, the field is read
as a plain address. (The digits of every such value are among those read.) -/
def Obligations.LogicalAddressIsOneBased : Prop :=
  (∀ p ∈ [('1', RegisterType.coil), ('2', .discreteInput), ('3', .inputRegister), ('4', .holdingRegister)],
    ∀ (ds : List Char) (v : Nat), decimal 5 ds = some v → 1 ≤ v → v ≤ 65535 →
      addressField (p.1 :: ds) = some (p.2, BitVec.ofNat 16 (v - 1))) ∧
  (∀ (c : Char) (ds : List Char), c ∉ ['1', '2', '3', '4'] ∨ decimal 5 ds = none ∨ decimal 5 ds = some 0 ∨ (∃ v, decimal 5 ds = some v ∧ 65535 < v) →
    addressField (c :: ds) = (plainAddress (c :: ds)).map fun a => (.holdingRegister, a)) ∧
  ∀ v : Nat, v ≤ 65535 → decimal 5 (Nat.toDigits 10 v) = some v

/-- 48_host_address_resolver.md R171: the header is split on `;`, and the count of fields alone selects the form: three fields are the Standard
form, two the Enhanced form, and any other count is `MalformedHeader`. -/
def Obligations.FieldCountSelectsTheForm : Prop :=
  (∀ fields : List (List Char), fields ≠ [] → (∀ f ∈ fields, ';' ∉ f) → splitFields (List.intercalate [';'] fields) = fields) ∧
  ∀ (header : List Char) (k : DataKind) (w : Bool),
    (∀ st fc addr, splitFields header = [st, fc, addr] → resolve header k w = resolveStandard st fc addr) ∧
    (∀ st addr, splitFields header = [st, addr] → resolve header k w = resolveEnhanced st addr k w) ∧
    ((splitFields header).length ≠ 2 → (splitFields header).length ≠ 3 → resolve header k w = .error .malformedHeader)

/-- 48_host_address_resolver.md R178: the function code the Enhanced form infers, by register type, direction and data kind; a write to a
discrete input or an input register is `ReadOnlyRegister`. -/
def Obligations.EnhancedFormInfersTheFunctionCode : Prop :=
  ∀ (st addr : List Char) (k : DataKind) (s : Byte) (t : RegisterType) (a : Word), ';' ∉ st → ';' ∉ addr → byteField st = some s →
    addressField addr = some (t, a) →
    (t = .coil → resolve (st ++ ';' :: addr) k false = .ok ⟨s, 0x01#8, a⟩ ∧ resolve (st ++ ';' :: addr) k true = .ok ⟨s, 0x05#8, a⟩) ∧
    (t = .discreteInput →
      resolve (st ++ ';' :: addr) k false = .ok ⟨s, 0x02#8, a⟩ ∧ resolve (st ++ ';' :: addr) k true = .error .readOnlyRegister) ∧
    (t = .holdingRegister → resolve (st ++ ';' :: addr) k false = .ok ⟨s, 0x03#8, a⟩ ∧
      (k = .int16 ∨ k = .uint16 → resolve (st ++ ';' :: addr) k true = .ok ⟨s, 0x06#8, a⟩) ∧
      (k ≠ .int16 → k ≠ .uint16 → resolve (st ++ ';' :: addr) k true = .ok ⟨s, 0x10#8, a⟩)) ∧
    (t = .inputRegister →
      resolve (st ++ ';' :: addr) k false = .ok ⟨s, 0x04#8, a⟩ ∧ resolve (st ++ ';' :: addr) k true = .error .readOnlyRegister)

/-- 48_host_address_resolver.md R182: when the address string resolves, running the host's moves to their end is the packer's command, chosen
by the function code, in the state with station, function code and address in their operand registers and nothing else changed; when it does
not, the host makes no move and the state stays as it is. (That the moves are a list of the state is log 1.) -/
def Obligations.ResolvedRequestRunsThePacker : Prop :=
  ∀ p ∈ [(FrameCodec.rtu, 0x03#8), (.tcp, 0x05#8)], ∀ (header : List Char) (k : DataKind) (w : Bool) (s : State),
    (∀ h : AddressHeader, resolve header k w = .ok h → s.moves = [] →
      Host.Core.run Sys2Proof.core 4 (placeRequest p.1 header k w s) =
        exec (decodeOpcode h.functionCode p.2)
          { s with op := { s.op with station := h.station, fc := h.functionCode, addr := h.address } }) ∧
    (∀ e : AddressError, resolve header k w = .error e → placeRequest p.1 header k w s = s)
end

