-- ==== Sys2Proof/Laws/Memory.lean ====
section
/-! SUPPORT. The laws of the buffers: read after write, every other index left alone, the canonical form and the capacity kept. -/

namespace Sys2Proof.Machine

variable {α : Type}

@[simp] theorem Memory.read_nil (i : Nat) : Memory.read ([] : Memory α) i = none := rfl

@[simp] theorem Memory.read_write_same (m : Memory α) (i : Nat) (v : α) : Memory.read (Memory.write m i v) i = some v := by
  induction m with
  | nil => simp [Memory.write, Memory.read]
  | cons c m ih =>
    obtain ⟨k, w⟩ := c
    simp only [Memory.write]
    split
    · simp [Memory.read]
    · split
      · simp [Memory.read]
      · next _ hne => simp [Memory.read, Ne.symm hne, ih]

theorem Memory.read_write_ne (m : Memory α) {i j : Nat} (v : α) (h : j ≠ i) :
    Memory.read (Memory.write m i v) j = Memory.read m j := by
  induction m with
  | nil => simp [Memory.write, Memory.read, Ne.symm h]
  | cons c m ih =>
    obtain ⟨k, w⟩ := c
    simp only [Memory.write]
    split
    · simp [Memory.read, Ne.symm h]
    · split
      · next _ he => subst he; simp [Memory.read, Ne.symm h]
      · simp [Memory.read, ih]

theorem Memory.read_write (m : Memory α) (i j : Nat) (v : α) :
    Memory.read (Memory.write m i v) j = if j = i then some v else Memory.read m j := by
  split
  · next h => subst h; simp
  · next h => exact Memory.read_write_ne m v h

/-- What a sequence write leaves at an index: the sequence inside it, the old unit outside. -/
theorem Memory.read_writeSeq (vs : List α) : ∀ (m : Memory α) (i j : Nat),
    Memory.read (Memory.writeSeq m i vs) j = if i ≤ j ∧ j < i + vs.length then vs[j - i]? else Memory.read m j := by
  induction vs with
  | nil => intro m i j; simp [Memory.writeSeq]
  | cons v vs ih =>
    intro m i j
    rw [Memory.writeSeq, ih, Memory.read_write]
    rcases Nat.lt_trichotomy j i with h | h | h
    · rw [if_neg (by omega), if_neg (by omega), if_neg (by omega)]
    · subst h; rw [if_neg (by omega), if_pos rfl, if_pos (by simp)]; simp
    · have hs : j - i = (j - (i + 1)) + 1 := by omega
      rw [if_neg (show ¬ j = i by omega), hs, List.getElem?_cons_succ]
      have he : (i + 1 ≤ j ∧ j < i + 1 + vs.length) = (i ≤ j ∧ j < i + (v :: vs).length) := by
        simp only [List.length_cons, eq_iff_iff]; omega
      simp only [he]

theorem Memory.read_writeSeq_outside (m : Memory α) (vs : List α) {j : Nat} (h : vs.length ≤ j) :
    Memory.read (Memory.writeSeq m 0 vs) j = Memory.read m j := by
  rw [Memory.read_writeSeq, if_neg (by omega)]

theorem Memory.read_writeSeq_inside (m : Memory α) (vs : List α) {j : Nat} (h : j < vs.length) :
    Memory.read (Memory.writeSeq m 0 vs) j = some vs[j] := by
  rw [Memory.read_writeSeq, if_pos (by omega)]
  simp [h]

/-- Every listed index is above `b`. -/
theorem Memory.wf_cons_iff (k : Nat) (w : α) (m : Memory α) :
    Memory.wf ((k, w) :: m) = true ↔ (∀ c ∈ m.head?, k < c.1) ∧ Memory.wf m = true := by
  cases m with
  | nil => simp [Memory.wf]
  | cons c m => obtain ⟨l, x⟩ := c; simp [Memory.wf]

theorem Memory.head_write (m : Memory α) (i : Nat) (v : α) {k : Nat} (hk : k < i) (h : ∀ c ∈ m.head?, k < c.1) :
    ∀ c ∈ (Memory.write m i v).head?, k < c.1 := by
  cases m with
  | nil => simpa [Memory.write] using hk
  | cons c m =>
    obtain ⟨l, x⟩ := c
    have hl : k < l := by simpa using h
    simp only [Memory.write]
    split
    · simpa using hk
    · split
      · simpa using hk
      · simpa using hl

/-- Writing keeps the canonical form. -/
theorem Memory.wf_write (m : Memory α) (i : Nat) (v : α) (h : Memory.wf m = true) : Memory.wf (Memory.write m i v) = true := by
  induction m with
  | nil => simp [Memory.write, Memory.wf]
  | cons c m ih =>
    obtain ⟨k, w⟩ := c
    have hk := (Memory.wf_cons_iff k w m).1 h
    simp only [Memory.write]
    split
    · next hi => exact (Memory.wf_cons_iff i v _).2 ⟨by simpa using hi, h⟩
    · split
      · next _ he => subst he; exact (Memory.wf_cons_iff i v m).2 hk
      · next h1 h2 => exact (Memory.wf_cons_iff k w _).2 ⟨Memory.head_write m i v (by omega) hk.1, ih hk.2⟩

theorem Memory.wf_writeSeq (vs : List α) : ∀ (m : Memory α) (i : Nat),
    Memory.wf m = true → Memory.wf (Memory.writeSeq m i vs) = true := by
  induction vs with
  | nil => intro m i h; exact h
  | cons v vs ih => intro m i h; exact ih _ _ (Memory.wf_write m i v h)

/-- Writing below the capacity keeps every index below it. -/
theorem Memory.within_write {cap : Nat} (m : Memory α) {i : Nat} (v : α) (hi : i < cap) (h : Memory.within cap m = true) :
    Memory.within cap (Memory.write m i v) = true := by
  induction m with
  | nil => simpa [Memory.write, Memory.within] using hi
  | cons c m ih =>
    obtain ⟨k, w⟩ := c
    have hk : k < cap ∧ Memory.within cap m = true := by simpa [Memory.within] using h
    simp only [Memory.write]
    split
    · have : Memory.within cap ((i, v) :: (k, w) :: m) = (decide (i < cap) && Memory.within cap ((k, w) :: m)) := rfl
      rw [this, h]; simpa using hi
    · split
      · have : Memory.within cap ((i, v) :: m) = (decide (i < cap) && Memory.within cap m) := rfl
        rw [this, hk.2]; simpa using hi
      · have : Memory.within cap ((k, w) :: Memory.write m i v) = (decide (k < cap) && Memory.within cap (Memory.write m i v)) := rfl
        rw [this, ih hk.2]; simpa using hk.1

theorem Memory.within_writeSeq {cap : Nat} (vs : List α) : ∀ (m : Memory α) (i : Nat),
    i + vs.length ≤ cap → Memory.within cap m = true → Memory.within cap (Memory.writeSeq m i vs) = true := by
  induction vs with
  | nil => intro m i _ h; exact h
  | cons v vs ih =>
    intro m i hi h
    have hl : i + (vs.length + 1) ≤ cap := by simpa using hi
    exact ih _ _ (by omega) (Memory.within_write m v (by omega) h)

end Sys2Proof.Machine
end

