-- ==== Sys2Proof/Laws/State.lean ====
section
/-! SUPPORT. One lemma per field per update of the state, so that no later proof unfolds a record update. -/

namespace Sys2Proof.Machine

@[simp] theorem clearResults_op (s : State) : (clearResults s).op = s.op := rfl
@[simp] theorem clearResults_cmd (s : State) : (clearResults s).cmd = s.cmd := rfl
@[simp] theorem clearResults_res (s : State) : (clearResults s).res = Results.cleared := rfl
@[simp] theorem clearResults_ibuf (s : State) : (clearResults s).ibuf = s.ibuf := rfl
@[simp] theorem clearResults_obuf (s : State) : (clearResults s).obuf = s.obuf := rfl
@[simp] theorem clearResults_vbuf (s : State) : (clearResults s).vbuf = s.vbuf := rfl
@[simp] theorem clearResults_moves (s : State) : (clearResults s).moves = s.moves := rfl
@[simp] theorem clearResults_answers (s : State) : (clearResults s).answers = s.answers := rfl
@[simp] theorem clearResults_resetCount (s : State) : (clearResults s).resetCount = s.resetCount := rfl
@[simp] theorem clearResults_commandCount (s : State) : (clearResults s).commandCount = s.commandCount := rfl

@[simp] theorem startCommand_op (opcode : Byte) (s : State) : (startCommand opcode s).op = s.op := rfl
@[simp] theorem startCommand_cmd (opcode : Byte) (s : State) : (startCommand opcode s).cmd = opcode := rfl
@[simp] theorem startCommand_res (opcode : Byte) (s : State) : (startCommand opcode s).res = Results.cleared := rfl
@[simp] theorem startCommand_ibuf (opcode : Byte) (s : State) : (startCommand opcode s).ibuf = s.ibuf := rfl
@[simp] theorem startCommand_obuf (opcode : Byte) (s : State) : (startCommand opcode s).obuf = s.obuf := rfl
@[simp] theorem startCommand_vbuf (opcode : Byte) (s : State) : (startCommand opcode s).vbuf = s.vbuf := rfl
@[simp] theorem startCommand_moves (opcode : Byte) (s : State) : (startCommand opcode s).moves = s.moves := rfl
@[simp] theorem startCommand_answers (opcode : Byte) (s : State) : (startCommand opcode s).answers = s.answers := rfl
@[simp] theorem startCommand_resetCount (opcode : Byte) (s : State) : (startCommand opcode s).resetCount = s.resetCount := rfl
@[simp] theorem startCommand_commandCount (opcode : Byte) (s : State) : (startCommand opcode s).commandCount = s.commandCount + 1 := rfl

@[simp] theorem raise_op (kind : Status) (s : State) : (raise kind s).op = s.op := rfl
@[simp] theorem raise_cmd (kind : Status) (s : State) : (raise kind s).cmd = s.cmd := rfl
@[simp] theorem raise_res (kind : Status) (s : State) : (raise kind s).res = { Results.cleared with status := kind } := rfl
@[simp] theorem raise_ibuf (kind : Status) (s : State) : (raise kind s).ibuf = s.ibuf := rfl
@[simp] theorem raise_obuf (kind : Status) (s : State) : (raise kind s).obuf = s.obuf := rfl
@[simp] theorem raise_vbuf (kind : Status) (s : State) : (raise kind s).vbuf = s.vbuf := rfl
@[simp] theorem raise_moves (kind : Status) (s : State) : (raise kind s).moves = s.moves := rfl
@[simp] theorem raise_answers (kind : Status) (s : State) : (raise kind s).answers = s.answers := rfl
@[simp] theorem raise_resetCount (kind : Status) (s : State) : (raise kind s).resetCount = s.resetCount := rfl
@[simp] theorem raise_commandCount (kind : Status) (s : State) : (raise kind s).commandCount = s.commandCount := rfl

@[simp] theorem setResults_op (f : Results → Results) (s : State) : (setResults f s).op = s.op := rfl
@[simp] theorem setResults_cmd (f : Results → Results) (s : State) : (setResults f s).cmd = s.cmd := rfl
@[simp] theorem setResults_res (f : Results → Results) (s : State) : (setResults f s).res = f s.res := rfl
@[simp] theorem setResults_ibuf (f : Results → Results) (s : State) : (setResults f s).ibuf = s.ibuf := rfl
@[simp] theorem setResults_obuf (f : Results → Results) (s : State) : (setResults f s).obuf = s.obuf := rfl
@[simp] theorem setResults_vbuf (f : Results → Results) (s : State) : (setResults f s).vbuf = s.vbuf := rfl
@[simp] theorem setResults_moves (f : Results → Results) (s : State) : (setResults f s).moves = s.moves := rfl
@[simp] theorem setResults_answers (f : Results → Results) (s : State) : (setResults f s).answers = s.answers := rfl
@[simp] theorem setResults_resetCount (f : Results → Results) (s : State) : (setResults f s).resetCount = s.resetCount := rfl
@[simp] theorem setResults_commandCount (f : Results → Results) (s : State) : (setResults f s).commandCount = s.commandCount := rfl

@[simp] theorem emit_op (bytes : List Byte) (s : State) : (emit bytes s).op = s.op := rfl
@[simp] theorem emit_cmd (bytes : List Byte) (s : State) : (emit bytes s).cmd = s.cmd := rfl
@[simp] theorem emit_res (bytes : List Byte) (s : State) : (emit bytes s).res = { s.res with olen := BitVec.ofNat 32 bytes.length } := rfl
@[simp] theorem emit_ibuf (bytes : List Byte) (s : State) : (emit bytes s).ibuf = s.ibuf := rfl
@[simp] theorem emit_obuf (bytes : List Byte) (s : State) : (emit bytes s).obuf = Memory.writeSeq s.obuf 0 bytes := rfl
@[simp] theorem emit_vbuf (bytes : List Byte) (s : State) : (emit bytes s).vbuf = s.vbuf := rfl
@[simp] theorem emit_moves (bytes : List Byte) (s : State) : (emit bytes s).moves = s.moves := rfl
@[simp] theorem emit_answers (bytes : List Byte) (s : State) : (emit bytes s).answers = s.answers := rfl
@[simp] theorem emit_resetCount (bytes : List Byte) (s : State) : (emit bytes s).resetCount = s.resetCount := rfl
@[simp] theorem emit_commandCount (bytes : List Byte) (s : State) : (emit bytes s).commandCount = s.commandCount := rfl

@[simp] theorem emitv_op (entries : List Word) (s : State) : (emitv entries s).op = s.op := rfl
@[simp] theorem emitv_cmd (entries : List Word) (s : State) : (emitv entries s).cmd = s.cmd := rfl
@[simp] theorem emitv_res (entries : List Word) (s : State) : (emitv entries s).res = { s.res with vcnt := BitVec.ofNat 32 entries.length } := rfl
@[simp] theorem emitv_ibuf (entries : List Word) (s : State) : (emitv entries s).ibuf = s.ibuf := rfl
@[simp] theorem emitv_obuf (entries : List Word) (s : State) : (emitv entries s).obuf = s.obuf := rfl
@[simp] theorem emitv_vbuf (entries : List Word) (s : State) : (emitv entries s).vbuf = Memory.writeSeq s.vbuf 0 entries := rfl
@[simp] theorem emitv_moves (entries : List Word) (s : State) : (emitv entries s).moves = s.moves := rfl
@[simp] theorem emitv_answers (entries : List Word) (s : State) : (emitv entries s).answers = s.answers := rfl
@[simp] theorem emitv_resetCount (entries : List Word) (s : State) : (emitv entries s).resetCount = s.resetCount := rfl
@[simp] theorem emitv_commandCount (entries : List Word) (s : State) : (emitv entries s).commandCount = s.commandCount := rfl

@[simp] theorem answer_op (v : BitVec 32) (s : State) : (answer v s).op = s.op := rfl
@[simp] theorem answer_cmd (v : BitVec 32) (s : State) : (answer v s).cmd = s.cmd := rfl
@[simp] theorem answer_res (v : BitVec 32) (s : State) : (answer v s).res = s.res := rfl
@[simp] theorem answer_ibuf (v : BitVec 32) (s : State) : (answer v s).ibuf = s.ibuf := rfl
@[simp] theorem answer_obuf (v : BitVec 32) (s : State) : (answer v s).obuf = s.obuf := rfl
@[simp] theorem answer_vbuf (v : BitVec 32) (s : State) : (answer v s).vbuf = s.vbuf := rfl
@[simp] theorem answer_moves (v : BitVec 32) (s : State) : (answer v s).moves = s.moves := rfl
@[simp] theorem answer_answers (v : BitVec 32) (s : State) : (answer v s).answers = s.answers ++ [v] := rfl
@[simp] theorem answer_resetCount (v : BitVec 32) (s : State) : (answer v s).resetCount = s.resetCount := rfl
@[simp] theorem answer_commandCount (v : BitVec 32) (s : State) : (answer v s).commandCount = s.commandCount := rfl

@[simp] theorem dropMoves_op (rest : List HostMove) (s : State) : (dropMoves rest s).op = s.op := rfl
@[simp] theorem dropMoves_cmd (rest : List HostMove) (s : State) : (dropMoves rest s).cmd = s.cmd := rfl
@[simp] theorem dropMoves_res (rest : List HostMove) (s : State) : (dropMoves rest s).res = s.res := rfl
@[simp] theorem dropMoves_ibuf (rest : List HostMove) (s : State) : (dropMoves rest s).ibuf = s.ibuf := rfl
@[simp] theorem dropMoves_obuf (rest : List HostMove) (s : State) : (dropMoves rest s).obuf = s.obuf := rfl
@[simp] theorem dropMoves_vbuf (rest : List HostMove) (s : State) : (dropMoves rest s).vbuf = s.vbuf := rfl
@[simp] theorem dropMoves_moves (rest : List HostMove) (s : State) : (dropMoves rest s).moves = rest := rfl
@[simp] theorem dropMoves_answers (rest : List HostMove) (s : State) : (dropMoves rest s).answers = s.answers := rfl
@[simp] theorem dropMoves_resetCount (rest : List HostMove) (s : State) : (dropMoves rest s).resetCount = s.resetCount := rfl
@[simp] theorem dropMoves_commandCount (rest : List HostMove) (s : State) : (dropMoves rest s).commandCount = s.commandCount := rfl

@[simp] theorem hostReset_op (s : State) : (hostReset s).op = Operands.zero := rfl
@[simp] theorem hostReset_cmd (s : State) : (hostReset s).cmd = 0x00#8 := rfl
@[simp] theorem hostReset_res (s : State) : (hostReset s).res = Results.cleared := rfl
@[simp] theorem hostReset_ibuf (s : State) : (hostReset s).ibuf = [] := rfl
@[simp] theorem hostReset_obuf (s : State) : (hostReset s).obuf = [] := rfl
@[simp] theorem hostReset_vbuf (s : State) : (hostReset s).vbuf = [] := rfl
@[simp] theorem hostReset_moves (s : State) : (hostReset s).moves = s.moves := rfl
@[simp] theorem hostReset_answers (s : State) : (hostReset s).answers = s.answers := rfl
@[simp] theorem hostReset_resetCount (s : State) : (hostReset s).resetCount = s.resetCount + 1 := rfl
@[simp] theorem hostReset_commandCount (s : State) : (hostReset s).commandCount = s.commandCount := rfl

end Sys2Proof.Machine
end

