-- ==== Sys2Proof/Laws/Ops.lean ====
section
/-! SUPPORT. One lemma per shared operation: everything it can do, so that callers cite it and never unfold it. -/

namespace Sys2Proof.Machine

/-! The parameters meet their constraints (00_scope.md R7). -/

theorem inCap_bounds : 255 ≤ Config.inCap ∧ Config.inCap ≤ 65533 := by
  unfold Config.inCap
  have := Nat.mod_lt Config.inCapChoice (show 0 < 65279 by decide)
  omega

/-- A length every implementation takes, and one that none takes. -/
theorem le_inCap {n : Nat} (h : n ≤ 255) : n ≤ Config.inCap := le_trans h inCap_bounds.1

theorem inCap_lt_max : Config.inCap < 65535 := by
  have := inCap_bounds.2
  omega

theorem outCap_bound : Config.inCap + 13 ≤ Config.outCap := by
  unfold Config.outCap
  omega

theorem valCap_bound : 8 * Config.inCap ≤ Config.valCap := by
  unfold Config.valCap
  omega

/-! Words and lists. -/

theorem u16be_toNat (b0 b1 : Byte) : (u16be b0 b1).toNat = b0.toNat * 256 + b1.toNat := by
  have h := b1.isLt
  simp only [u16be, BitVec.toNat_append]
  rw [← Nat.shiftLeft_add_eq_or_of_lt h, Nat.shiftLeft_eq]

@[simp] theorem be16_length (v : Word) : (be16 v).length = 2 := rfl

@[simp] theorem crcBytes_length (b : List Byte) : (crcBytes b).length = 2 := rfl

@[simp] theorem inputBytes_length (s : State) : (inputBytes s).length = s.op.ilen.toNat := by simp [inputBytes]

@[simp] theorem outputBytes_length (s : State) : (outputBytes s).length = s.res.olen.toNat := by simp [outputBytes]

@[simp] theorem outputEntries_length (s : State) : (outputEntries s).length = s.res.vcnt.toNat := by simp [outputEntries]

/-- The input bytes depend on the operand length, `IBUF` and the count of resets alone. -/
theorem inputBytes_congr {s t : State} (h₁ : t.op.ilen = s.op.ilen) (h₂ : t.ibuf = s.ibuf) (h₃ : t.resetCount = s.resetCount) :
    inputBytes t = inputBytes s := by
  have hb : ibufByte t = ibufByte s := by funext i; simp [ibufByte, h₂, h₃]
  simp [inputBytes, h₁, hb]

@[simp] theorem inputBytes_startCommand (opcode : Byte) (s : State) : inputBytes (startCommand opcode s) = inputBytes s := rfl

@[simp] theorem dataOperand_startCommand (opcode : Byte) (s : State) : dataOperand (startCommand opcode s) = dataOperand s := rfl

@[simp] theorem dataLength_startCommand (opcode : Byte) (s : State) : dataLength (startCommand opcode s) = dataLength s := rfl

/-! The host sees what was emitted. -/

/-- After `emit`, whatever else is written to the results but `R_OLEN`, the output is the sequence emitted. -/
theorem outputBytes_emit (bytes : List Byte) (s t : State) (hb : bytes.length < 2 ^ 32)
    (ho : t.obuf = (emit bytes s).obuf) (hn : t.res.olen = (emit bytes s).res.olen) : outputBytes t = bytes := by
  have hl : t.res.olen.toNat = bytes.length := by rw [hn]; simpa using hb
  apply List.ext_getElem
  · simp [hl]
  · intro i h₁ h₂
    simp only [outputBytes, List.getElem_map, List.getElem_range, obufByte]
    rw [if_pos (by omega), ho, emit_obuf, Memory.read_writeSeq_inside _ _ h₂]
    rfl

/-- After `emitv`, whatever else is written to the results but `R_VCNT`, the entries are the sequence emitted. -/
theorem outputEntries_emitv (entries : List Word) (s t : State) (hb : entries.length < 2 ^ 32)
    (ho : t.vbuf = (emitv entries s).vbuf) (hn : t.res.vcnt = (emitv entries s).res.vcnt) : outputEntries t = entries := by
  have hl : t.res.vcnt.toNat = entries.length := by rw [hn]; simpa using hb
  apply List.ext_getElem
  · simp [hl]
  · intro i h₁ h₂
    simp only [outputEntries, List.getElem_map, List.getElem_range, vbufEntry]
    rw [if_pos (by omega), ho, emitv_vbuf, Memory.read_writeSeq_inside _ _ h₂]
    rfl

/-- Every way an operation ends: the input length is out of range, or its body fails, or its body ends well. -/
theorem runOperation_cases (opcode : Byte) (body : State → Except Status State) (s : State) :
    (Config.inCap < s.op.ilen.toNat ∧ runOperation opcode body s = raise .range (startCommand opcode s)) ∨
    (s.op.ilen.toNat ≤ Config.inCap ∧ ∃ kind, body (startCommand opcode s) = .error kind ∧
      runOperation opcode body s = raise kind (startCommand opcode s)) ∨
    (s.op.ilen.toNat ≤ Config.inCap ∧ ∃ t, body (startCommand opcode s) = .ok t ∧ runOperation opcode body s = t) := by
  unfold runOperation
  split
  · next h =>
    split
    · next t ht => exact .inr (.inr ⟨h, t, ht, rfl⟩)
    · next kind hk => exact .inr (.inl ⟨h, kind, hk, rfl⟩)
  · next h => exact .inl ⟨by omega, rfl⟩

theorem runOperation_range {opcode : Byte} {body : State → Except Status State} {s : State} (h : Config.inCap < s.op.ilen.toNat) :
    runOperation opcode body s = raise .range (startCommand opcode s) := by
  rw [runOperation, if_neg (by omega)]

theorem runOperation_ok {opcode : Byte} {body : State → Except Status State} {s t : State} (h : s.op.ilen.toNat ≤ Config.inCap)
    (hb : body (startCommand opcode s) = .ok t) : runOperation opcode body s = t := by
  simp [runOperation, h, hb]

theorem runOperation_error {opcode : Byte} {body : State → Except Status State} {s : State} {kind : Status}
    (h : s.op.ilen.toNat ≤ Config.inCap) (hb : body (startCommand opcode s) = .error kind) :
    runOperation opcode body s = raise kind (startCommand opcode s) := by
  simp [runOperation, h, hb]

/-- Every way an access to an index ends. -/
theorem atIndex_cases (space : Space) (index : Nat) (t : State) :
    (index < capacity space ∧ atIndex space index t = .next t) ∨
    (capacity space ≤ index ∧ atIndex space index t = .refused (.beyondCapacity space index)) := by
  unfold atIndex
  split
  · next h => exact .inl ⟨h, rfl⟩
  · next h => exact .inr ⟨by omega, rfl⟩

/-- What a step does, by the host's next move. -/
theorem step_idle {s : State} (h : s.moves = []) : step s = .next s := by simp [step, h]

theorem step_start {s : State} {m : HostMove} {rest : List HostMove} {op : Byte} (h : s.moves = m :: rest)
    (hm : startedOpcode m = some op) : step s = exec (decodeOpcode s.op.fc op) (dropMoves rest s) := by
  simp [step, h, hm]

theorem step_access {s : State} {m : HostMove} {rest : List HostMove} (h : s.moves = m :: rest) (hm : startedOpcode m = none) :
    step s = hostAccess m (dropMoves rest s) := by
  simp [step, h, hm]

/-- A run of the machine, step by step. -/
theorem run_zero (s : State) : Host.Core.run Sys2Proof.core 0 s = .next s := rfl

theorem run_succ {s t : State} {k : Nat} (h : step s = .next t) :
    Host.Core.run Sys2Proof.core (k + 1) s = Host.Core.run Sys2Proof.core k t := by
  have hc : Sys2Proof.core.step s = .next t := h
  simp only [Host.Core.run]; rw [hc]

theorem run_one (s : State) : Host.Core.run Sys2Proof.core 1 s = step s := by
  have hc : Sys2Proof.core.step s = step s := rfl
  simp only [Host.Core.run]; rw [hc]
  cases step s <;> rfl

/-- The moves of a request: those of the header when the address resolves, none when it does not (48_host_address_resolver.md R182). -/
theorem requestMoves_ok {c : FrameCodec} {header : List Char} {k : DataKind} {isWrite : Bool} {h : AddressHeader}
    (hr : resolve header k isWrite = .ok h) : requestMoves c header k isWrite = headerMoves c h := by
  simp [requestMoves, hr]

theorem requestMoves_error {c : FrameCodec} {header : List Char} {k : DataKind} {isWrite : Bool} {e : AddressError}
    (hr : resolve header k isWrite = .error e) : requestMoves c header k isWrite = [] := by
  simp [requestMoves, hr]

/-- A register's number names it. -/
@[simp] theorem regOfNumber_regNumber (r : Reg) : regOfNumber (regNumber r) = some r := by cases r <;> rfl

theorem regNumber_of_regOfNumber {n : Nat} {r : Reg} (h : regOfNumber n = some r) : n = regNumber r := by
  unfold regOfNumber at h
  split at h <;> first | (cases h; rfl) | cases h

/-- A step whose move writes a value that fits to a register other than `CMD`. -/
theorem step_writeReg {s : State} {r : Reg} {v : Nat} {rest : List HostMove} (h : s.moves = .writeReg (regNumber r) v :: rest)
    (hr : r ≠ .cmd) (hv : v < 2 ^ regWidth r) : step s = .next (writeRegister r v (dropMoves rest s)) := by
  rw [step_access h (by simp [startedOpcode, hr])]
  simp [hostAccess, hostWriteRegister, hv]

/-- The moves that start a command are the writes of a byte to `CMD`. -/
theorem startedOpcode_writeCmd (op : Byte) : startedOpcode (.writeReg 0x08 op.toNat) = some op := by
  have h : op.toNat < 256 := op.isLt
  simp [startedOpcode, regOfNumber, h]

end Sys2Proof.Machine
end

