-- ==== Sys2Proof/Laws/PerInstr.lean ====
section
/-! SUPPORT. Facts about every command as syntax, one lemma per constructor. -/

/-- The opcode byte a well-formed command encodes to matches its row of the opcode table (30_encoding.md R61). -/
def Sys2Proof.Laws.EncodedInRow.Statement (i : Sys2Proof.Instr) : Prop :=
  i.wellFormed = true → Sys2Proof.encode i = [Sys2Proof.opcodeOf i] ∧ Sys2Proof.inRow i.row (Sys2Proof.opcodeOf i) = true

namespace Sys2Proof.Laws.EncodedInRow

theorem crc16 : Statement .crc16 := fun _ => ⟨rfl, by decide⟩
theorem crcValidate : Statement .crcValidate := fun _ => ⟨rfl, by decide⟩
theorem rtuBuildFc01 : Statement .rtuBuildFc01 := fun _ => ⟨rfl, by decide⟩
theorem rtuBuildFc02 : Statement .rtuBuildFc02 := fun _ => ⟨rfl, by decide⟩
theorem rtuBuildFc03 : Statement .rtuBuildFc03 := fun _ => ⟨rfl, by decide⟩
theorem rtuBuildFc04 : Statement .rtuBuildFc04 := fun _ => ⟨rfl, by decide⟩
theorem rtuBuildFc05 : Statement .rtuBuildFc05 := fun _ => ⟨rfl, by decide⟩
theorem rtuBuildFc06 : Statement .rtuBuildFc06 := fun _ => ⟨rfl, by decide⟩
theorem rtuBuildFc0F : Statement .rtuBuildFc0F := fun _ => ⟨rfl, by decide⟩
theorem rtuBuildFc10 : Statement .rtuBuildFc10 := fun _ => ⟨rfl, by decide⟩
theorem rtuBuildUnsupported : Statement .rtuBuildUnsupported := fun _ => ⟨rfl, by decide⟩
theorem rtuParse : Statement .rtuParse := fun _ => ⟨rfl, by decide⟩
theorem tcpBuildReqFc01 : Statement .tcpBuildReqFc01 := fun _ => ⟨rfl, by decide⟩
theorem tcpBuildReqFc02 : Statement .tcpBuildReqFc02 := fun _ => ⟨rfl, by decide⟩
theorem tcpBuildReqFc03 : Statement .tcpBuildReqFc03 := fun _ => ⟨rfl, by decide⟩
theorem tcpBuildReqFc04 : Statement .tcpBuildReqFc04 := fun _ => ⟨rfl, by decide⟩
theorem tcpBuildReqFc05 : Statement .tcpBuildReqFc05 := fun _ => ⟨rfl, by decide⟩
theorem tcpBuildReqFc06 : Statement .tcpBuildReqFc06 := fun _ => ⟨rfl, by decide⟩
theorem tcpBuildReqFc0F : Statement .tcpBuildReqFc0F := fun _ => ⟨rfl, by decide⟩
theorem tcpBuildReqFc10 : Statement .tcpBuildReqFc10 := fun _ => ⟨rfl, by decide⟩
theorem tcpBuildReqUnsupported : Statement .tcpBuildReqUnsupported := fun _ => ⟨rfl, by decide⟩
theorem tcpBuildResp : Statement .tcpBuildResp := fun _ => ⟨rfl, by decide⟩
theorem tcpParse : Statement .tcpParse := fun _ => ⟨rfl, by decide⟩
theorem getBits : Statement .getBits := fun _ => ⟨rfl, by decide⟩
theorem getRegs : Statement .getRegs := fun _ => ⟨rfl, by decide⟩
theorem illegalOp00 : Statement .illegalOp00 := fun _ => ⟨rfl, by decide⟩
theorem illegalOp0A0B (opcode : Byte) : Statement (.illegalOp0A0B opcode) := fun h => ⟨rfl, h⟩
theorem illegalOp0C0F (opcode : Byte) : Statement (.illegalOp0C0F opcode) := fun h => ⟨rfl, h⟩
theorem illegalOp101F (opcode : Byte) : Statement (.illegalOp101F opcode) := fun h => ⟨rfl, h⟩
theorem illegalOp203F (opcode : Byte) : Statement (.illegalOp203F opcode) := fun h => ⟨rfl, h⟩
theorem illegalOp407F (opcode : Byte) : Statement (.illegalOp407F opcode) := fun h => ⟨rfl, h⟩
theorem illegalOp80FF (opcode : Byte) : Statement (.illegalOp80FF opcode) := fun h => ⟨rfl, h⟩

end Sys2Proof.Laws.EncodedInRow
end

