-- ==== Sys2Proof/Tests/Slice0.lean ====
section
/-! SUPPORT. Tests: ill-formed terms, decoded words, one or two steps per command with the expected values of spec/95_test_vectors.md (the
vector's name stands before each), host moves, the resolver, and one witness per statement that has hypotheses. -/

namespace Sys2Proof.Tests

set_option Elab.async false

open Sys2Proof Sys2Proof.Machine Sys2Proof.Claims

/-! Well-formedness: an opcode outside its row (the row's limits are those of 30_encoding.md R76). -/

theorem test_illformed_0A0B : (Instr.illegalOp0A0B 0x0C#8).wellFormed = false := by decide
theorem test_illformed_0C0F : (Instr.illegalOp0C0F 0x10#8).wellFormed = false := by decide
theorem test_illformed_101F : (Instr.illegalOp101F 0x0F#8).wellFormed = false := by decide
theorem test_illformed_203F : (Instr.illegalOp203F 0x40#8).wellFormed = false := by decide
theorem test_illformed_407F : (Instr.illegalOp407F 0x80#8).wellFormed = false := by decide
theorem test_illformed_80FF : (Instr.illegalOp80FF 0x7F#8).wellFormed = false := by decide
theorem test_wellformed_limits :
    (Instr.illegalOp0A0B 0x0B#8).wellFormed ∧ (Instr.illegalOp0C0F 0x0F#8).wellFormed ∧ (Instr.illegalOp101F 0x1F#8).wellFormed ∧
      (Instr.illegalOp203F 0x3F#8).wellFormed ∧ (Instr.illegalOp407F 0x7F#8).wellFormed ∧ (Instr.illegalOp80FF 0xFF#8).wellFormed := by
  decide

/-! Decoding: the command bytes of 30_encoding.md R61 and R76, with the value of `OP_FC` that selects the row. -/

theorem test_decode_crc16 : decode 0x00#8 [0b00000001#8] = .ok (.crc16, []) := by decide
theorem test_decode_crcValidate : decode 0x00#8 [0b00000010#8] = .ok (.crcValidate, []) := by decide
theorem test_decode_rtuBuildFc01 : decode 0x01#8 [0b00000011#8] = .ok (.rtuBuildFc01, []) := by decide
theorem test_decode_rtuBuildFc02 : decode 0x02#8 [0b00000011#8] = .ok (.rtuBuildFc02, []) := by decide
theorem test_decode_rtuBuildFc03 : decode 0x03#8 [0b00000011#8] = .ok (.rtuBuildFc03, []) := by decide
theorem test_decode_rtuBuildFc04 : decode 0x04#8 [0b00000011#8] = .ok (.rtuBuildFc04, []) := by decide
theorem test_decode_rtuBuildFc05 : decode 0x05#8 [0b00000011#8] = .ok (.rtuBuildFc05, []) := by decide
theorem test_decode_rtuBuildFc06 : decode 0x06#8 [0b00000011#8] = .ok (.rtuBuildFc06, []) := by decide
theorem test_decode_rtuBuildFc0F : decode 0x0F#8 [0b00000011#8] = .ok (.rtuBuildFc0F, []) := by decide
theorem test_decode_rtuBuildFc10 : decode 0x10#8 [0b00000011#8] = .ok (.rtuBuildFc10, []) := by decide
theorem test_decode_rtuBuildUnsupported :
    decode 0x00#8 [0b00000011#8] = .ok (.rtuBuildUnsupported, []) ∧ decode 0x83#8 [0b00000011#8] = .ok (.rtuBuildUnsupported, []) := by
  decide
theorem test_decode_rtuParse : decode 0x00#8 [0b00000100#8] = .ok (.rtuParse, []) := by decide
theorem test_decode_tcpBuildReqFc01 : decode 0x01#8 [0b00000101#8] = .ok (.tcpBuildReqFc01, []) := by decide
theorem test_decode_tcpBuildReqFc02 : decode 0x02#8 [0b00000101#8] = .ok (.tcpBuildReqFc02, []) := by decide
theorem test_decode_tcpBuildReqFc03 : decode 0x03#8 [0b00000101#8] = .ok (.tcpBuildReqFc03, []) := by decide
theorem test_decode_tcpBuildReqFc04 : decode 0x04#8 [0b00000101#8] = .ok (.tcpBuildReqFc04, []) := by decide
theorem test_decode_tcpBuildReqFc05 : decode 0x05#8 [0b00000101#8] = .ok (.tcpBuildReqFc05, []) := by decide
theorem test_decode_tcpBuildReqFc06 : decode 0x06#8 [0b00000101#8] = .ok (.tcpBuildReqFc06, []) := by decide
theorem test_decode_tcpBuildReqFc0F : decode 0x0F#8 [0b00000101#8] = .ok (.tcpBuildReqFc0F, []) := by decide
theorem test_decode_tcpBuildReqFc10 : decode 0x10#8 [0b00000101#8] = .ok (.tcpBuildReqFc10, []) := by decide
theorem test_decode_tcpBuildReqUnsupported :
    decode 0x07#8 [0b00000101#8] = .ok (.tcpBuildReqUnsupported, []) ∧ decode 0x17#8 [0b00000101#8] = .ok (.tcpBuildReqUnsupported, []) := by
  decide
theorem test_decode_tcpBuildResp : decode 0x00#8 [0b00000110#8] = .ok (.tcpBuildResp, []) := by decide
theorem test_decode_tcpParse : decode 0x00#8 [0b00000111#8] = .ok (.tcpParse, []) := by decide
theorem test_decode_getBits : decode 0x00#8 [0b00001000#8] = .ok (.getBits, []) := by decide
theorem test_decode_getRegs : decode 0x00#8 [0b00001001#8] = .ok (.getRegs, []) := by decide
theorem test_decode_illegalOp00 : decode 0x00#8 [0b00000000#8] = .ok (.illegalOp00, []) := by decide
theorem test_decode_illegalOp0A0B : decode 0x00#8 [0b00001011#8, 0x01#8] = .ok (.illegalOp0A0B 0x0B#8, [0x01#8]) := by decide
theorem test_decode_illegalOp0C0F :
    decode 0x00#8 [0b00001100#8] = .ok (.illegalOp0C0F 0x0C#8, []) ∧ decode 0x00#8 [0b00001111#8] = .ok (.illegalOp0C0F 0x0F#8, []) := by
  decide
theorem test_decode_illegalOp101F :
    decode 0x00#8 [0b00010000#8] = .ok (.illegalOp101F 0x10#8, []) ∧ decode 0x00#8 [0b00011111#8] = .ok (.illegalOp101F 0x1F#8, []) := by
  decide
theorem test_decode_illegalOp203F :
    decode 0x00#8 [0b00100000#8] = .ok (.illegalOp203F 0x20#8, []) ∧ decode 0x00#8 [0b00111111#8] = .ok (.illegalOp203F 0x3F#8, []) := by
  decide
theorem test_decode_illegalOp407F :
    decode 0x00#8 [0b01000000#8] = .ok (.illegalOp407F 0x40#8, []) ∧ decode 0x00#8 [0b01111111#8] = .ok (.illegalOp407F 0x7F#8, []) := by
  decide
theorem test_decode_illegalOp80FF :
    decode 0x00#8 [0b10000000#8] = .ok (.illegalOp80FF 0x80#8, []) ∧ decode 0x00#8 [0b11111111#8] = .ok (.illegalOp80FF 0xFF#8, []) := by
  decide
theorem test_decode_noByte : decode 0x00#8 [] = .error .noCommandByte := by decide

/-- Table words (log 2): 8 bits are the command byte, 16 bits carry `OP_FC` above it, fewer than 8 are no command. -/
theorem test_decodeTableWord :
    decodeTableWord 8 0x01 = some .crc16 ∧ decodeTableWord 8 0x03 = some .rtuBuildUnsupported ∧
      decodeTableWord 16 0x1005 = some .tcpBuildReqFc10 ∧ decodeTableWord 8 0xFF = some (.illegalOp80FF 0xFF#8) ∧
      decodeTableWord 7 0x01 = none := by
  decide

/-! Steps. -/

/-- The block after reset with these operands, these bytes in `IBUF` and their number in `OP_ILEN`. -/
def block (op : Operands) (data : List Byte) : State :=
  { State.reset with op := { op with ilen := BitVec.ofNat 16 data.length }, ibuf := Memory.writeSeq [] 0 data }

/-- `block` with the host about to write `opcode` to `CMD`. -/
def ready (opcode : Nat) (op : Operands) (data : List Byte) : State := { block op data with moves := [.writeReg 0x08 opcode] }

/-- The next state of an outcome. -/
def after (o : Host.Outcome State Fault Refusal) : Option State :=
  match o with
  | .next t => some t
  | .fault _ | .refused _ => none

/-- What the host can read of a step: `CMD`, the results, the output bytes, the entries. -/
def shown (o : Host.Outcome State Fault Refusal) : Option (Byte × Results × List Byte × List Word) :=
  (after o).map fun t => (t.cmd, t.res, outputBytes t, outputEntries t)

/-- Operands with station, function code, address, length-or-value and data-present bit. -/
def rtuOps (st fc : Byte) (addr lv : Word) (dpres : BitVec 1) : Operands :=
  { Operands.zero with station := st, fc := fc, addr := addr, lv := lv, dpres := dpres }

/-- The same and the transaction id. -/
def tcpOps (tid : Word) (st fc : Byte) (addr lv : Word) (dpres : BitVec 1) : Operands := { rtuOps st fc addr lv dpres with tid := tid }

/-- The results of an error. -/
def failed (kind : Status) : Results := { Results.cleared with status := kind }

/-- The results of an RTU frame of `n` bytes. -/
def rtuResults (st fc : Byte) (crc : Word) (n : Nat) : Results :=
  { Results.cleared with station := st, fc := fc, crc := crc, olen := BitVec.ofNat 32 n }

/-- The results of a TCP request of `n` bytes. -/
def tcpResults (tid : Word) (st fc : Byte) (len : Word) (disp n : Nat) : Results :=
  { Results.cleared with tid := tid, len := len, station := st, fc := fc, disp := BitVec.ofNat 32 disp, olen := BitVec.ofNat 32 n }

/-- V-C6. -/
theorem test_crc16_check_value :
    shown (step (ready 0x01 Operands.zero [0x31#8, 0x32#8, 0x33#8, 0x34#8, 0x35#8, 0x36#8, 0x37#8, 0x38#8, 0x39#8])) =
      some (0x01#8, { Results.cleared with crc := 0x4B37#16 }, [], []) := by decide +kernel

/-- V-C1. -/
theorem test_crc16_empty :
    shown (step (ready 0x01 Operands.zero [])) = some (0x01#8, { Results.cleared with crc := 0xFFFF#16 }, [], []) := by decide +kernel

/-- V-V7. -/
theorem test_crcValidate_good :
    shown (step (ready 0x02 Operands.zero [0x01#8, 0x03#8, 0x00#8, 0x00#8, 0x00#8, 0x0A#8, 0xC5#8, 0xCD#8])) =
      some (0x02#8, { Results.cleared with flags := 0x01#8, crc := 0xCDC5#16 }, [], []) := by decide +kernel

/-- V-V10 and V-V2. -/
theorem test_crcValidate_bad :
    shown (step (ready 0x02 Operands.zero [0x01#8, 0x03#8, 0x00#8, 0x00#8, 0x00#8, 0x0A#8, 0xCD#8, 0xC5#8])) =
      some (0x02#8, { Results.cleared with crc := 0xCDC5#16 }, [], []) ∧
    shown (step (ready 0x02 Operands.zero [0xFF#8])) = some (0x02#8, failed .frameTooShort, [], []) := by decide +kernel

/-- V-B1. -/
theorem test_rtuBuildFc01 :
    shown (step (ready 0x03 (rtuOps 0x01#8 0x01#8 0x0000#16 8#16 0#1) [])) =
      some (0x03#8, rtuResults 0x01#8 0x01#8 0xCC3D#16 8, [0x01#8, 0x01#8, 0x00#8, 0x00#8, 0x00#8, 0x08#8, 0x3D#8, 0xCC#8], []) := by
  decide +kernel

/-- V-B2. -/
theorem test_rtuBuildFc02 :
    shown (step (ready 0x03 (rtuOps 0x01#8 0x02#8 0x0010#16 16#16 0#1) [])) =
      some (0x03#8, rtuResults 0x01#8 0x02#8 0x0378#16 8, [0x01#8, 0x02#8, 0x00#8, 0x10#8, 0x00#8, 0x10#8, 0x78#8, 0x03#8], []) := by
  decide +kernel

/-- V-B26. -/
theorem test_rtuBuildFc03 :
    shown (step (ready 0x03 (rtuOps 0x01#8 0x03#8 0x0600#16 1#16 0#1) [])) =
      some (0x03#8, rtuResults 0x01#8 0x03#8 0x8284#16 8, [0x01#8, 0x03#8, 0x06#8, 0x00#8, 0x00#8, 0x01#8, 0x84#8, 0x82#8], []) := by
  decide +kernel

/-- V-B4. -/
theorem test_rtuBuildFc04 :
    shown (step (ready 0x03 (rtuOps 0x11#8 0x04#8 0x0008#16 1#16 0#1) [])) =
      some (0x03#8, rtuResults 0x11#8 0x04#8 0x98B2#16 8, [0x11#8, 0x04#8, 0x00#8, 0x08#8, 0x00#8, 0x01#8, 0xB2#8, 0x98#8], []) := by
  decide +kernel

/-- V-B5. -/
theorem test_rtuBuildFc05_zero :
    shown (step (ready 0x03 (rtuOps 0x01#8 0x05#8 0x0003#16 0#16 0#1) [])) =
      some (0x03#8, rtuResults 0x01#8 0x05#8 0x3A7C#16 8, [0x01#8, 0x05#8, 0x00#8, 0x03#8, 0xFF#8, 0x00#8, 0x7C#8, 0x3A#8], []) := by
  decide +kernel

/-- V-B7. -/
theorem test_rtuBuildFc05_nonzero :
    shown (step (ready 0x03 (rtuOps 0x01#8 0x05#8 0x0003#16 0xFF00#16 0#1) [])) =
      some (0x03#8, rtuResults 0x01#8 0x05#8 0xCA3D#16 8, [0x01#8, 0x05#8, 0x00#8, 0x03#8, 0x00#8, 0x00#8, 0x3D#8, 0xCA#8], []) := by
  decide +kernel

/-- V-B8. -/
theorem test_rtuBuildFc06 :
    shown (step (ready 0x03 (rtuOps 0x01#8 0x06#8 0x0000#16 100#16 0#1) [])) =
      some (0x03#8, rtuResults 0x01#8 0x06#8 0x2188#16 8, [0x01#8, 0x06#8, 0x00#8, 0x00#8, 0x00#8, 0x64#8, 0x88#8, 0x21#8], []) := by
  decide +kernel

/-- V-B15. -/
theorem test_rtuBuildFc0F :
    shown (step (ready 0x03 (rtuOps 0x01#8 0x0F#8 0x0013#16 10#16 1#1) [0xCD#8, 0x01#8, 0x77#8])) =
      some (0x03#8, rtuResults 0x01#8 0x0F#8 0x030B#16 12,
        [0x01#8, 0x0F#8, 0x00#8, 0x13#8, 0x00#8, 0x0A#8, 0x02#8, 0xCD#8, 0x01#8, 0x77#8, 0x0B#8, 0x03#8], []) := by decide +kernel

/-- V-B13 and V-B14: 2041 coils do not fit the byte count; absent data. -/
theorem test_rtuBuildFc0F_errors :
    shown (step (ready 0x03 (rtuOps 0x01#8 0x0F#8 0x0000#16 2041#16 1#1) [0xFF#8])) = some (0x03#8, failed .range, [], []) ∧
    shown (step (ready 0x03 (rtuOps 0x01#8 0x0F#8 0x0000#16 10#16 0#1) [])) = some (0x03#8, failed .invalidDataLength, [], []) := by
  decide +kernel

/-- V-B19: odd data is accepted. -/
theorem test_rtuBuildFc10 :
    shown (step (ready 0x03 (rtuOps 0x01#8 0x10#8 0x0001#16 2#16 1#1) [0x00#8, 0x0A#8, 0x01#8])) =
      some (0x03#8, rtuResults 0x01#8 0x10#8 0x2642#16 12,
        [0x01#8, 0x10#8, 0x00#8, 0x01#8, 0x00#8, 0x02#8, 0x03#8, 0x00#8, 0x0A#8, 0x01#8, 0x42#8, 0x26#8], []) := by decide +kernel

/-- V-B17 and V-B18: empty data is accepted, absent data is not. -/
theorem test_rtuBuildFc10_empty :
    shown (step (ready 0x03 (rtuOps 0xFF#8 0x10#8 0xFFFF#16 0#16 1#1) [])) =
      some (0x03#8, rtuResults 0xFF#8 0x10#8 0x9F32#16 9,
        [0xFF#8, 0x10#8, 0xFF#8, 0xFF#8, 0x00#8, 0x00#8, 0x00#8, 0x32#8, 0x9F#8], []) ∧
    shown (step (ready 0x03 (rtuOps 0x01#8 0x10#8 0x0001#16 2#16 0#1) [])) = some (0x03#8, failed .invalidDataLength, [], []) := by
  decide +kernel

/-- V-B24. -/
theorem test_rtuBuildUnsupported :
    shown (step (ready 0x03 (rtuOps 0x01#8 0x83#8 0#16 0#16 0#1) [])) = some (0x03#8, failed .unsupportedFunctionCode, [], []) := by
  decide +kernel

/-- V-P8. -/
theorem test_rtuParse :
    shown (step (ready 0x04 Operands.zero [0x01#8, 0x03#8, 0x04#8, 0x00#8, 0x0A#8, 0x00#8, 0x14#8, 0xDA#8, 0x3E#8])) =
      some (0x04#8, rtuResults 0x01#8 0x03#8 0x3EDA#16 4, [0x00#8, 0x0A#8, 0x00#8, 0x14#8], []) := by decide +kernel

/-- V-P17 (clamped) and V-P10 (last byte wrong). -/
theorem test_rtuParse_corners :
    shown (step (ready 0x04 Operands.zero [0x01#8, 0x05#8, 0x00#8, 0x03#8, 0x51#8, 0xD8#8])) =
      some (0x04#8, { rtuResults 0x01#8 0x05#8 0xD851#16 2 with flags := 0x02#8 }, [0x00#8, 0x03#8], []) ∧
    shown (step (ready 0x04 Operands.zero [0x01#8, 0x03#8, 0x04#8, 0x00#8, 0x0A#8, 0x00#8, 0x14#8, 0xDA#8, 0x3F#8])) =
      some (0x04#8, failed .checksumMismatch, [], []) := by decide +kernel

/-- V-T2. -/
theorem test_tcpBuildReqFc01 :
    shown (step (ready 0x05 (tcpOps 0x1234#16 0x11#8 0x01#8 0x0013#16 0x0025#16 0#1) [])) =
      some (0x05#8, tcpResults 0x1234#16 0x11#8 0x01#8 6#16 20 12,
        [0x12#8, 0x34#8, 0x00#8, 0x00#8, 0x00#8, 0x06#8, 0x11#8, 0x01#8, 0x00#8, 0x13#8, 0x00#8, 0x25#8], []) := by decide +kernel

/-- V-T3. -/
theorem test_tcpBuildReqFc02 :
    shown (step (ready 0x05 (tcpOps 0x0002#16 0x01#8 0x02#8 0x00C4#16 0x0016#16 0#1) [])) =
      some (0x05#8, tcpResults 0x0002#16 0x01#8 0x02#8 6#16 10197 12,
        [0x00#8, 0x02#8, 0x00#8, 0x00#8, 0x00#8, 0x06#8, 0x01#8, 0x02#8, 0x00#8, 0xC4#8, 0x00#8, 0x16#8], []) := by decide +kernel

/-- V-T1. -/
theorem test_tcpBuildReqFc03 :
    shown (step (ready 0x05 (tcpOps 0x0001#16 0x01#8 0x03#8 0x0000#16 2#16 0#1) [])) =
      some (0x05#8, tcpResults 0x0001#16 0x01#8 0x03#8 6#16 40001 12,
        [0x00#8, 0x01#8, 0x00#8, 0x00#8, 0x00#8, 0x06#8, 0x01#8, 0x03#8, 0x00#8, 0x00#8, 0x00#8, 0x02#8], []) := by decide +kernel

/-- V-T4. -/
theorem test_tcpBuildReqFc04 :
    shown (step (ready 0x05 (tcpOps 0xFFFF#16 0xFF#8 0x04#8 0xFFFF#16 0xFFFF#16 0#1) [])) =
      some (0x05#8, tcpResults 0xFFFF#16 0xFF#8 0x04#8 6#16 95536 12,
        [0xFF#8, 0xFF#8, 0x00#8, 0x00#8, 0x00#8, 0x06#8, 0xFF#8, 0x04#8, 0xFF#8, 0xFF#8, 0xFF#8, 0xFF#8], []) := by decide +kernel

/-- V-T5 to V-T7 for form 0x05, by the reading of `TCP_SW_VALUE_SRC`. -/
theorem test_tcpBuildReqFc05_readings :
    (∀ src, shown (tcpBuildReq (tcpPduFc05 src) (block (tcpOps 0x0005#16 0x01#8 0x05#8 0x0003#16 0#16 1#1) [0xFF#8, 0x00#8])) =
      some (0x05#8, tcpResults 0x0005#16 0x01#8 0x05#8 6#16 4 12,
        [0x00#8, 0x05#8, 0x00#8, 0x00#8, 0x00#8, 0x06#8, 0x01#8, 0x05#8, 0x00#8, 0x03#8, 0xFF#8, 0x00#8], [])) ∧
    shown (tcpBuildReq (tcpPduFc05 .length) (block (tcpOps 0x0005#16 0x01#8 0x05#8 0x0003#16 1#16 1#1) [0xFF#8, 0x00#8])) =
      some (0x05#8, tcpResults 0x0005#16 0x01#8 0x05#8 6#16 4 12,
        [0x00#8, 0x05#8, 0x00#8, 0x00#8, 0x00#8, 0x06#8, 0x01#8, 0x05#8, 0x00#8, 0x03#8, 0x00#8, 0x00#8], []) := by
  refine ⟨fun src => ?_, by decide +kernel⟩
  cases src <;> decide +kernel

/-- V-T9 and V-T10: fewer than two data bytes, absent data. -/
theorem test_tcpBuildReqFc05_errors :
    shown (step (ready 0x05 (tcpOps 0x0005#16 0x01#8 0x05#8 0x0003#16 0#16 1#1) [0xFF#8])) =
      some (0x05#8, failed .invalidDataLength, [], []) ∧
    shown (step (ready 0x05 (tcpOps 0x0005#16 0x01#8 0x05#8 0x0003#16 0#16 0#1) [0xFF#8, 0x00#8])) =
      some (0x05#8, failed .invalidDataLength, [], []) := by decide +kernel

/-- V-T12 and V-T13 for form 0x06, by the reading of `TCP_SW_VALUE_SRC`. -/
theorem test_tcpBuildReqFc06_readings :
    shown (tcpBuildReq (tcpPduFc06 .length) (block (tcpOps 0x0001#16 0x01#8 0x06#8 0x0000#16 100#16 1#1) [0x12#8, 0x34#8])) =
      some (0x05#8, tcpResults 0x0001#16 0x01#8 0x06#8 6#16 40001 12,
        [0x00#8, 0x01#8, 0x00#8, 0x00#8, 0x00#8, 0x06#8, 0x01#8, 0x06#8, 0x00#8, 0x00#8, 0x00#8, 0x64#8], []) ∧
    shown (tcpBuildReq (tcpPduFc06 .data) (block (tcpOps 0x0001#16 0x01#8 0x06#8 0x0000#16 100#16 1#1) [0x12#8, 0x34#8])) =
      some (0x05#8, tcpResults 0x0001#16 0x01#8 0x06#8 6#16 40001 12,
        [0x00#8, 0x01#8, 0x00#8, 0x00#8, 0x00#8, 0x06#8, 0x01#8, 0x06#8, 0x00#8, 0x00#8, 0x12#8, 0x34#8], []) := by decide +kernel

/-- V-T14. -/
theorem test_tcpBuildReqFc06_error :
    shown (step (ready 0x05 (tcpOps 0x0001#16 0x01#8 0x06#8 0x0000#16 100#16 1#1) [])) =
      some (0x05#8, failed .invalidDataLength, [], []) := by decide +kernel

/-- V-T18: the byte count is the data length, not the count divided by 8. -/
theorem test_tcpBuildReqFc0F :
    shown (step (ready 0x05 (tcpOps 0x0001#16 0x01#8 0x0F#8 0x0013#16 3#16 1#1) [0xCD#8, 0x01#8])) =
      some (0x05#8, tcpResults 0x0001#16 0x01#8 0x0F#8 9#16 20 15,
        [0x00#8, 0x01#8, 0x00#8, 0x00#8, 0x00#8, 0x09#8, 0x01#8, 0x0F#8, 0x00#8, 0x13#8, 0x00#8, 0x03#8, 0x02#8, 0xCD#8, 0x01#8], []) := by
  decide +kernel

/-- V-T16 and V-T17: present and empty data, absent data. -/
theorem test_tcpBuildReqFc0F_empty :
    shown (step (ready 0x05 (tcpOps 0x0001#16 0x01#8 0x0F#8 0x0013#16 10#16 1#1) [])) =
      some (0x05#8, tcpResults 0x0001#16 0x01#8 0x0F#8 7#16 20 13,
        [0x00#8, 0x01#8, 0x00#8, 0x00#8, 0x00#8, 0x07#8, 0x01#8, 0x0F#8, 0x00#8, 0x13#8, 0x00#8, 0x0A#8, 0x00#8], []) ∧
    shown (step (ready 0x05 (tcpOps 0x0001#16 0x01#8 0x0F#8 0x0013#16 10#16 0#1) [])) =
      some (0x05#8, failed .invalidDataLength, [], []) := by decide +kernel

/-- V-T21: the register count is half the data length, whatever `OP_LV` holds. -/
theorem test_tcpBuildReqFc10 :
    shown (step (ready 0x05 (tcpOps 0x0001#16 0x01#8 0x10#8 0x0001#16 0#16 1#1) [0xAB#8, 0xCD#8])) =
      some (0x05#8, tcpResults 0x0001#16 0x01#8 0x10#8 9#16 40002 15,
        [0x00#8, 0x01#8, 0x00#8, 0x00#8, 0x00#8, 0x09#8, 0x01#8, 0x10#8, 0x00#8, 0x01#8, 0x00#8, 0x01#8, 0x02#8, 0xAB#8, 0xCD#8], []) := by
  decide +kernel

/-- V-T22 and V-T23: odd and empty data. -/
theorem test_tcpBuildReqFc10_errors :
    shown (step (ready 0x05 (tcpOps 0x0001#16 0x01#8 0x10#8 0x0001#16 2#16 1#1) [0x00#8, 0x0A#8, 0x01#8])) =
      some (0x05#8, failed .invalidDataLength, [], []) ∧
    shown (step (ready 0x05 (tcpOps 0x0001#16 0x01#8 0x10#8 0x0001#16 2#16 1#1) [])) =
      some (0x05#8, failed .invalidDataLength, [], []) := by decide +kernel

/-- V-T30. -/
theorem test_tcpBuildReqUnsupported :
    shown (step (ready 0x05 (tcpOps 0x0001#16 0x01#8 0x17#8 0#16 0#16 0#1) [])) =
      some (0x05#8, failed .unsupportedFunctionCode, [], []) := by decide +kernel

/-- V-R3. -/
theorem test_tcpBuildResp :
    shown (step (ready 0x06 { Operands.zero with tid := 0xABCD#16, pid := 0x1234#16, station := 0x09#8, fc := 0x83#8 } [0x02#8])) =
      some (0x06#8,
        { Results.cleared with tid := 0xABCD#16, pid := 0x1234#16, len := 3#16, station := 0x09#8, fc := 0x83#8, olen := 9#32 },
        [0xAB#8, 0xCD#8, 0x12#8, 0x34#8, 0x00#8, 0x03#8, 0x09#8, 0x83#8, 0x02#8], []) := by decide +kernel

/-- V-Q7. -/
theorem test_tcpParse :
    shown (step (ready 0x07 Operands.zero
        [0xAB#8, 0xCD#8, 0x12#8, 0x34#8, 0xFF#8, 0xFF#8, 0x09#8, 0x83#8, 0x02#8, 0x00#8, 0x00#8, 0x00#8, 0x77#8])) =
      some (0x07#8,
        { Results.cleared with
            tid := 0xABCD#16, pid := 0x1234#16, len := 0xFFFF#16, station := 0x09#8, fc := 0x83#8, addr := 0x0200#16, qty := 0#16 },
        [], []) := by decide +kernel

/-- V-Q2: eleven bytes. -/
theorem test_tcpParse_short :
    shown (step (ready 0x07 Operands.zero [0x00#8, 0x01#8, 0x00#8, 0x00#8, 0x00#8, 0x06#8, 0x01#8, 0x03#8, 0x00#8, 0x00#8, 0x00#8])) =
      some (0x07#8, failed .frameTooShort, [], []) := by decide +kernel

/-- V-G3. -/
theorem test_getBits :
    shown (step (ready 0x08 { Operands.zero with fc := 0x01#8 } [0xCD#8, 0x01#8])) =
      some (0x08#8, { Results.cleared with fc := 0x01#8, vcnt := 16#32 }, [],
        [1#16, 0#16, 1#16, 1#16, 0#16, 0#16, 1#16, 1#16, 1#16, 0#16, 0#16, 0#16, 0#16, 0#16, 0#16, 0#16]) := by decide +kernel

/-- V-G9: the request code 0x0F is no read response. -/
theorem test_getBits_kind :
    shown (step (ready 0x08 { Operands.zero with fc := 0x0F#8 } [0x05#8])) = some (0x08#8, failed .wrongResponseKind, [], []) := by
  decide +kernel

/-- V-H2. -/
theorem test_getRegs :
    shown (step (ready 0x09 { Operands.zero with fc := 0x04#8 } [0xFF#8, 0xFF#8, 0x80#8, 0x00#8])) =
      some (0x09#8, { Results.cleared with fc := 0x04#8, vcnt := 2#32 }, [], [0xFFFF#16, 0x8000#16]) := by decide +kernel

/-- V-H7 and V-H9: an odd payload; the wrong kind is reported before it. -/
theorem test_getRegs_errors :
    shown (step (ready 0x09 { Operands.zero with fc := 0x03#8 } [0x12#8])) = some (0x09#8, failed .invalidDataLength, [], []) ∧
    shown (step (ready 0x09 { Operands.zero with fc := 0x01#8 } [0x00#8])) = some (0x09#8, failed .wrongResponseKind, [], []) := by
  decide +kernel

/-- V-I1. -/
theorem test_illegalOp00 : shown (step (ready 0x00 Operands.zero [0x01#8])) = some (0x00#8, failed .illegalOp, [], []) := by decide +kernel

/-- V-I2. -/
theorem test_illegalOp0A0B : shown (step (ready 0x0A Operands.zero [])) = some (0x0A#8, failed .illegalOp, [], []) := by decide +kernel

theorem test_illegalOp0C0F : shown (step (ready 0x0F Operands.zero [])) = some (0x0F#8, failed .illegalOp, [], []) := by decide +kernel
theorem test_illegalOp101F : shown (step (ready 0x10 Operands.zero [])) = some (0x10#8, failed .illegalOp, [], []) := by decide +kernel
theorem test_illegalOp203F : shown (step (ready 0x3F Operands.zero [])) = some (0x3F#8, failed .illegalOp, [], []) := by decide +kernel
theorem test_illegalOp407F : shown (step (ready 0x40 Operands.zero [])) = some (0x40#8, failed .illegalOp, [], []) := by decide +kernel

/-- V-I3. -/
theorem test_illegalOp80FF : shown (step (ready 0xFF Operands.zero [])) = some (0xFF#8, failed .illegalOp, [], []) := by decide +kernel

/-- The largest `OP_ILEN` is out of range in every implementation, and no byte is looked at (60_exceptions.md R194; as V-I6). -/
theorem test_input_too_long :
    runOperation 0x01#8 crc16Body { State.reset with op := { Operands.zero with ilen := 0xFFFF#16 } } =
      raise .range (startCommand 0x01#8 { State.reset with op := { Operands.zero with ilen := 0xFFFF#16 } }) :=
  runOperation_range inCap_lt_max

/-! Host moves. -/

/-- The outcome of one move after reset. -/
def move (m : HostMove) : Host.Outcome State Fault Refusal := step { State.reset with moves := [m] }

/-- The answers after an outcome. -/
def answersOf (o : Host.Outcome State Fault Refusal) : Option (List (BitVec 32)) := (after o).map (·.answers)

/-- A refusal, if the outcome is one. -/
def refusalOf (o : Host.Outcome State Fault Refusal) : Option Refusal :=
  match o with
  | .refused r => some r
  | .next _ | .fault _ => none

/-- V-I4: a write to `STATUS` is ignored (log 9). -/
theorem test_write_status_ignored : after (move (.writeReg 0x10 0x55)) = some State.reset := by decide +kernel

/-- V-I5: a reserved register number is refused (10_state.md R28), also for a write; 0x1D is the first above the map. -/
theorem test_reserved_register :
    refusalOf (move (.readReg 0x0C)) = some (.reservedRegister 0x0C) ∧ refusalOf (move (.writeReg 0x09 0)) = some (.reservedRegister 0x09) ∧
      refusalOf (move (.readReg 0x1D)) = some (.reservedRegister 0x1D) := by decide +kernel

/-- A value wider than its register (10_state.md R28). -/
theorem test_value_too_wide :
    refusalOf (move (.writeReg 0x06 2)) = some (.valueTooWide 0x06 2) ∧ refusalOf (move (.writeReg 0x08 0x100)) = some (.valueTooWide 0x08 0x100) := by
  decide +kernel

/-- An index at the capacity (10_state.md R28). -/
theorem test_beyond_capacity : move (.readIbuf Config.inCap) = .refused (.beyondCapacity .ibuf Config.inCap) := if_neg (Nat.lt_irrefl _)

/-- A register write is read back (20_memory.md R48); `STATUS` reads as a code (30_encoding.md R75). -/
theorem test_register_write_read :
    answersOf (Host.Core.run core 2 { State.reset with moves := [.writeReg 0x02 0xFFFF, .readReg 0x02] }) = some [0xFFFF#32] ∧
    answersOf (Host.Core.run core 2 { State.reset with moves := [.writeReg 0x08 0x0A, .readReg 0x10] }) = some [0x80#32] := by
  decide +kernel

/-- A byte written to `IBUF` is read back. -/
theorem test_ibuf_write_read :
    answersOf (Host.Core.run core 2 { State.reset with moves := [.writeIbuf 254 0xA5#8, .readIbuf 254] }) = some [0xA5#32] := by
  decide +kernel

/-- The register map (10_state.md R11, R14, R20): numbers and widths written out, and the numbers reserved. -/
theorem test_register_map :
    regOfNumber 0x00 = some .opStation ∧ regOfNumber 0x07 = some .opIlen ∧ regOfNumber 0x08 = some .cmd ∧ regOfNumber 0x0F = none ∧
      regOfNumber 0x10 = some .status ∧ regOfNumber 0x19 = some .rCrc ∧ regOfNumber 0x1C = some .rDisp ∧ regOfNumber 0x1D = none ∧
      regWidth .opDpres = 1 ∧ regWidth .opIlen = 16 ∧ regWidth .rOlen = 32 := by decide

/-- The status codes of 30_encoding.md R75. -/
theorem test_status_codes :
    [Status.ok, .unsupportedFunctionCode, .invalidDataLength, .frameTooShort, .checksumMismatch, .wrongResponseKind, .malformedHeader,
      .readOnlyRegister, .illegalOp, .range].map statusCode =
      [0x00#8, 0x01#8, 0x02#8, 0x03#8, 0x04#8, 0x05#8, 0x06#8, 0x07#8, 0x80#8, 0x81#8] := by decide

/-! The resolver, on the headers of spec/95_test_vectors.md. -/

/-- V-A1, V-A8, V-A11, V-A12. -/
theorem test_resolver_standard :
    resolve "1;3;0".toList .int16 false = .ok ⟨1#8, 0x03#8, 0#16⟩ ∧ resolve "0x0A;0x10;40010".toList .int16 true = .ok ⟨10#8, 0x10#8, 9#16⟩ ∧
      resolve "1;3;10".toList .int16 false = .ok ⟨1#8, 0x03#8, 10#16⟩ ∧
      resolve "1;3;40000".toList .int16 false = .ok ⟨1#8, 0x03#8, 40000#16⟩ := by decide +kernel

/-- V-A4, V-A5, V-A18, V-A22. -/
theorem test_resolver_enhanced :
    resolve "1;3".toList .int16 true = .ok ⟨1#8, 0x06#8, 3#16⟩ ∧ resolve "1;3".toList .float true = .ok ⟨1#8, 0x10#8, 3#16⟩ ∧
      resolve "1;10005".toList .int32 true = .ok ⟨1#8, 0x05#8, 4#16⟩ ∧
      resolve "255;365535".toList .int16 false = .ok ⟨255#8, 0x04#8, 65534#16⟩ := by decide +kernel

/-- V-A6, V-A24, V-A28, V-A29. -/
theorem test_resolver_errors :
    resolve "2;30001".toList .int16 true = .error .readOnlyRegister ∧ resolve "1;465536".toList .int16 false = .error .malformedHeader ∧
      resolve "256;3;0".toList .int16 false = .error .malformedHeader ∧ resolve "1;2;3;4".toList .int16 false = .error .malformedHeader ∧
      resolve "".toList .int16 false = .error .malformedHeader ∧ tryResolve "1;;0".toList .int16 false = false := by decide +kernel

/-- The hand-off writes the three operand registers (48_host_address_resolver.md R182). -/
theorem test_resolver_handOff :
    (after (Host.Core.run core 3 { State.reset with moves := handOff ⟨1#8, 0x10#8, 9#16⟩ })).map (·.op) =
      some { Operands.zero with station := 1#8, fc := 0x10#8, addr := 9#16 } := by decide +kernel

/-- A resolved request ends with the packer's opcode in `CMD`; one that fails makes no move (48_host_address_resolver.md R182). -/
theorem test_resolver_requestMoves :
    requestMoves .tcp "1;3;0".toList .int16 false =
      [.writeReg 0x00 1, .writeReg 0x01 0x03, .writeReg 0x02 0, .writeReg 0x08 0x05] ∧
    requestMoves .rtu "2;30001".toList .int16 true = [] := by decide +kernel

/-! Witnesses: for every statement with hypotheses a state and operands that meet them, clause by clause, at the limits of each range. -/

/-- A block holds the bytes put into it. -/
theorem inputBytes_block (op : Operands) (data : List Byte) (h : data.length ≤ 255) : inputBytes (block op data) = data := by
  have hl : (block op data).op.ilen.toNat = data.length := by simp only [block, BitVec.toNat_ofNat]; omega
  apply List.ext_getElem
  · rw [inputBytes_length, hl]
  · intro i h₁ h₂
    simp only [inputBytes, List.getElem_map, List.getElem_range, ibufByte, block, Memory.read_writeSeq_inside [] data h₂]
    rfl

theorem inRange_block (op : Operands) (data : List Byte) (h : data.length ≤ 255) : InRange (block op data) := by
  refine le_inCap ?_
  simp only [block, BitVec.toNat_ofNat]
  omega

/-- The largest `OP_ILEN`, out of range whatever `IN_CAP` is. -/
def tooLong (op : Operands) : State := { State.reset with op := { op with ilen := 0xFFFF#16 } }

theorem tooLong_outOfRange (op : Operands) : ¬ InRange (tooLong op) := Nat.not_le.2 inCap_lt_max

/-- The state after a command (a command always has one). -/
def next (i : Instr) (s : State) : State := (after (exec i s)).getD s

/-- A state with output, an input byte, and a command about to be written. -/
def sample : State :=
  { ready 0x01 Operands.zero [0x05#8] with obuf := [(0, 0x07#8), (3, 0x09#8)], res := { Results.cleared with olen := 1#32, fc := 0x03#8 } }

theorem witness_StepKeepsInvariant : State.Inv sample ∧ step sample = .next (next .crc16 { sample with moves := [] }) := by
  have h : 255 ≤ Config.inCap := inCap_bounds.1
  have ho := outCap_bound
  refine ⟨⟨by decide, by decide, by decide, ?_, ?_, by decide, ?_, Nat.zero_le _, ?_, ?_, by decide, by decide, by decide, ?_⟩, rfl⟩
  · simp [sample, ready, block, Memory.writeSeq, Memory.write, Memory.within]; omega
  · simp [sample, ready, block, Memory.within]; omega
  · simp [sample, ready]; omega
  · intro i hi
    have hz : i = 0 := by simp [sample, ready] at hi; exact hi
    subst hz; decide
  · intro i hi; simp [sample, ready, Results.cleared] at hi
  · intro hs; exact absurd rfl hs

theorem witness_HostResetFromAnyState : ({ sample with moves := [.reset, .readReg 0x10] } : State).moves = .reset :: [.readReg 0x10] := rfl

theorem witness_DecodeEncodeAgree :
    ((Instr.illegalOp0A0B 0x0A#8).wellFormed = true ∧ selectedBy 0x55#8 (.illegalOp0A0B 0x0A#8) = true) ∧
    ((Instr.illegalOp80FF 0xFF#8).wellFormed = true ∧ selectedBy 0x00#8 (.illegalOp80FF 0xFF#8) = true) ∧
    (Instr.rtuBuildFc10.wellFormed = true ∧ selectedBy 0x10#8 .rtuBuildFc10 = true) ∧
    (Instr.tcpBuildReqUnsupported.wellFormed = true ∧ selectedBy 0x11#8 .tcpBuildReqUnsupported = true) := by decide

theorem witness_DecodedCommandIsItsEncoding : decode 0x0F#8 [0x05#8, 0xAA#8] = .ok (.tcpBuildReqFc0F, [0xAA#8]) := by decide

theorem witness_StepRunsTheDecodedCommand :
    (ready 0x05 (tcpOps 1#16 1#8 0x10#8 0#16 0#16 1#1) []).moves = .writeReg 0x08 (0x05#8).toNat :: [] ∧
      decode (ready 0x05 (tcpOps 1#16 1#8 0x10#8 0#16 0#16 1#1) []).op.fc [0x05#8] = .ok (.tcpBuildReqFc10, []) := by decide

theorem witness_FetchWordRunsTheTableWord :
    decodeTableWord 8 0x00 = some .illegalOp00 ∧ decodeTableWord 16 0x0F03 = some .rtuBuildFc0F := by decide

theorem witness_IdleBlockHoldsItsState : State.reset.moves = [] := rfl

theorem witness_ChecksumDetectsEverySingleBitError :
    (1 < ([] : List Byte).length + 2 ∧ 7 < 8) ∧ (0 < [0x01#8].length + 2 ∧ 0 < 8) := by decide

theorem witness_Crc16ReturnsTheChecksum :
    InRange (block Operands.zero (List.replicate 255 0x01#8)) ∧ ¬ InRange (tooLong Operands.zero) :=
  ⟨inRange_block _ _ (by decide +kernel), tooLong_outOfRange _⟩

theorem witness_CrcValidateComparesTheTrailingBytes :
    (InRange (block Operands.zero [0xFF#8, 0xFF#8]) ∧ inputBytes (block Operands.zero [0xFF#8, 0xFF#8]) = [] ++ [0xFF#8, 0xFF#8]) ∧
    (InRange (block Operands.zero [0xFF#8]) ∧ (block Operands.zero [0xFF#8]).op.ilen.toNat < 2) :=
  ⟨⟨inRange_block _ _ (by decide), inputBytes_block _ _ (by decide)⟩, inRange_block _ _ (by decide), by decide⟩

theorem witness_RtuReadAndSingleRegisterFrames :
    ∀ p ∈ [(Instr.rtuBuildFc01, 0x01#8), (.rtuBuildFc02, 0x02#8), (.rtuBuildFc03, 0x03#8), (.rtuBuildFc04, 0x04#8), (.rtuBuildFc06, 0x06#8)],
      ((block (rtuOps 1#8 p.2 0xFFFF#16 0#16 0#1) []).op.fc = p.2 ∧ InRange (block (rtuOps 1#8 p.2 0xFFFF#16 0#16 0#1) [])) ∧
      ((tooLong (rtuOps 1#8 p.2 0xFFFF#16 0#16 0#1)).op.fc = p.2 ∧ ¬ InRange (tooLong (rtuOps 1#8 p.2 0xFFFF#16 0#16 0#1))) :=
  fun _ _ => ⟨⟨rfl, inRange_block _ _ (by decide)⟩, rfl, tooLong_outOfRange _⟩

theorem witness_RtuSingleCoilFrame :
    (InRange (block (rtuOps 1#8 0x05#8 3#16 0#16 0#1) []) ∧ 0xFF#8 = if (block (rtuOps 1#8 0x05#8 3#16 0#16 0#1) []).op.lv = 0#16 then 0xFF#8 else 0x00#8) ∧
    (InRange (block (rtuOps 1#8 0x05#8 3#16 1#16 0#1) []) ∧ 0x00#8 = if (block (rtuOps 1#8 0x05#8 3#16 1#16 0#1) []).op.lv = 0#16 then 0xFF#8 else 0x00#8) ∧
    ((tooLong (rtuOps 1#8 0x05#8 3#16 1#16 0#1)).op.fc = 0x05#8 ∧ ¬ InRange (tooLong (rtuOps 1#8 0x05#8 3#16 1#16 0#1))) :=
  ⟨⟨inRange_block _ _ (by decide), by decide⟩, ⟨inRange_block _ _ (by decide), by decide⟩, rfl, tooLong_outOfRange _⟩

/-- The three clauses exclude each other by `OP_DPRES` and the count: 2040 falls under the last, 2041 under the second. -/
theorem witness_RtuMultipleCoilsFrame :
    (∃ s : State, InRange s ∧ s.op.fc = 0x0F#8 ∧ s.op.dpres = 0#1) ∧
    (∃ s : State, InRange s ∧ s.op.fc = 0x0F#8 ∧ s.op.dpres = 1#1 ∧ 2040 < s.op.lv.toNat ∧ s.op.lv.toNat = 2041) ∧
    (∃ s : State, InRange s ∧ s.op.fc = 0x0F#8 ∧ s.op.dpres = 1#1 ∧ s.op.lv.toNat ≤ 2040 ∧ s.op.lv.toNat = 2040) :=
  ⟨⟨block (rtuOps 1#8 0x0F#8 0#16 10#16 0#1) [], inRange_block _ _ (by decide), rfl, rfl⟩,
   ⟨block (rtuOps 1#8 0x0F#8 0#16 2041#16 1#1) [0xFF#8], inRange_block _ _ (by decide), rfl, rfl, by decide, by decide⟩,
   ⟨block (rtuOps 1#8 0x0F#8 0#16 2040#16 1#1) [0xFF#8], inRange_block _ _ (by decide), rfl, rfl, by decide, by decide⟩⟩

theorem witness_RtuMultipleRegistersFrame :
    (∃ s : State, s.op.fc = 0x10#8 ∧ InRange s ∧ s.op.dpres = 0#1) ∧
    (∃ s : State, s.op.fc = 0x10#8 ∧ s.op.dpres = 1#1 ∧ 255 < s.op.ilen.toNat ∧ s.op.ilen.toNat = 256) ∧
    (∃ s : State, s.op.fc = 0x10#8 ∧ s.op.dpres = 1#1 ∧ s.op.ilen.toNat ≤ 255 ∧ s.op.ilen.toNat = 255) :=
  ⟨⟨block (rtuOps 1#8 0x10#8 0#16 10#16 0#1) [], rfl, inRange_block _ _ (by decide), rfl⟩,
   ⟨block (rtuOps 1#8 0x10#8 0#16 0#16 1#1) (List.replicate 256 0#8), rfl, rfl, by decide +kernel, by decide +kernel⟩,
   ⟨block (rtuOps 1#8 0x10#8 0#16 0#16 1#1) (List.replicate 255 0#8), rfl, rfl, by decide +kernel, by decide +kernel⟩⟩

theorem witness_RtuUnsupportedFunctionCodeFails :
    ∀ fc ∈ [0x00#8, 0x07#8, 0x0E#8, 0x11#8, 0xFF#8], InRange (block (rtuOps 1#8 fc 0#16 0#16 0#1) []) ∧
      (block (rtuOps 1#8 fc 0#16 0#16 0#1) []).op.fc ∉ [0x01#8, 0x02#8, 0x03#8, 0x04#8, 0x05#8, 0x06#8, 0x0F#8, 0x10#8] := by
  intro fc hfc
  refine ⟨inRange_block _ _ (by decide), ?_⟩
  revert fc hfc
  decide

/-- `IBUF` holding a frame. -/
def framed (head : List Byte) : State := block Operands.zero (withCrc head)

theorem framed_meets (head : List Byte) (h : head.length ≤ 253) : InRange (framed head) ∧ inputBytes (framed head) = withCrc head := by
  have hl : (withCrc head).length ≤ 255 := by simp only [withCrc, List.length_append, List.length_cons, List.length_nil]; omega
  exact ⟨inRange_block _ _ hl, inputBytes_block _ _ hl⟩

theorem witness_RtuParseCopiesTheEnvelope :
    InRange (framed ([0xFF#8, 0x83#8] ++ [])) ∧ inputBytes (framed ([0xFF#8, 0x83#8] ++ [])) = withCrc ([0xFF#8, 0x83#8] ++ []) :=
  framed_meets _ (by decide)

/-- The clauses of the extraction: byte count 0 and 2 (with a surplus byte), the fixed four bytes, an exception code. -/
theorem witness_RtuParseExtractsThePayload :
    (0x04#8 ∈ [0x01#8, 0x02#8, 0x03#8, 0x04#8] ∧ ([] : List Byte).length = (0x00#8).toNat ∧ InRange (framed ([1#8, 4#8, 0#8] ++ [] ++ [])) ∧
      inputBytes (framed ([1#8, 4#8, 0#8] ++ [] ++ [])) = withCrc ([1#8, 4#8, 0#8] ++ [] ++ [])) ∧
    (0x01#8 ∈ [0x01#8, 0x02#8, 0x03#8, 0x04#8] ∧ [7#8, 8#8].length = (0x02#8).toNat ∧
      InRange (framed ([1#8, 1#8, 2#8] ++ [7#8, 8#8] ++ [9#8])) ∧
      inputBytes (framed ([1#8, 1#8, 2#8] ++ [7#8, 8#8] ++ [9#8])) = withCrc ([1#8, 1#8, 2#8] ++ [7#8, 8#8] ++ [9#8])) ∧
    (0x10#8 ∈ [0x05#8, 0x06#8, 0x0F#8, 0x10#8] ∧ InRange (framed ([1#8, 0x10#8, 0#8, 1#8, 0#8, 2#8] ++ [])) ∧
      inputBytes (framed ([1#8, 0x10#8, 0#8, 1#8, 0#8, 2#8] ++ [])) = withCrc ([1#8, 0x10#8, 0#8, 1#8, 0#8, 2#8] ++ [])) ∧
    (0x83#8 ∉ supportedFunctionCodes ∧ InRange (framed ([1#8, 0x83#8] ++ [2#8])) ∧
      inputBytes (framed ([1#8, 0x83#8] ++ [2#8])) = withCrc ([1#8, 0x83#8] ++ [2#8])) :=
  ⟨⟨by decide, by decide, framed_meets _ (by decide)⟩, ⟨by decide, by decide, framed_meets _ (by decide)⟩,
   ⟨by decide, framed_meets _ (by decide)⟩, by decide, framed_meets _ (by decide)⟩

/-- The clauses of the clamp: one byte short, no byte count at all, three of the four fixed bytes. -/
theorem witness_RtuParseClampsAtTheChecksum :
    (0x03#8 ∈ [0x01#8, 0x02#8, 0x03#8, 0x04#8] ∧ [7#8].length < (0x02#8).toNat ∧ InRange (framed ([1#8, 3#8, 2#8] ++ [7#8])) ∧
      inputBytes (framed ([1#8, 3#8, 2#8] ++ [7#8])) = withCrc ([1#8, 3#8, 2#8] ++ [7#8])) ∧
    (0x02#8 ∈ [0x01#8, 0x02#8, 0x03#8, 0x04#8] ∧ InRange (framed [1#8, 2#8]) ∧ inputBytes (framed [1#8, 2#8]) = withCrc [1#8, 2#8]) ∧
    (0x05#8 ∈ [0x05#8, 0x06#8, 0x0F#8, 0x10#8] ∧ [0#8, 3#8, 0xFF#8].length < 4 ∧ InRange (framed ([1#8, 5#8] ++ [0#8, 3#8, 0xFF#8])) ∧
      inputBytes (framed ([1#8, 5#8] ++ [0#8, 3#8, 0xFF#8])) = withCrc ([1#8, 5#8] ++ [0#8, 3#8, 0xFF#8])) :=
  ⟨⟨by decide, by decide, framed_meets _ (by decide)⟩, ⟨by decide, framed_meets _ (by decide)⟩, by decide, by decide,
   framed_meets _ (by decide)⟩

theorem witness_RtuParseRejectsBadFrames :
    (InRange (block Operands.zero [1#8, 3#8, 0x40#8]) ∧ (block Operands.zero [1#8, 3#8, 0x40#8]).op.ilen.toNat < 4) ∧
    (InRange (block Operands.zero [1#8, 3#8, 0#8, 0#8]) ∧ inputBytes (block Operands.zero [1#8, 3#8, 0#8, 0#8]) = [1#8, 3#8] ++ [0#8, 0#8] ∧
      2 ≤ [1#8, 3#8].length ∧ (0#8, 0#8) ≠ crc16 [1#8, 3#8]) :=
  ⟨⟨inRange_block _ _ (by decide), by decide⟩, inRange_block _ _ (by decide), inputBytes_block _ _ (by decide), by decide,
   by decide +kernel⟩

/-- Operands and two data bytes with which every form builds a frame. -/
def asked (fc : Byte) : State := block (tcpOps 7#16 0x11#8 fc 0x0102#16 9#16 1#1) [0xFF#8, 0x00#8]

theorem witness_RtuRequestParsesBack :
    ∀ p ∈ rtuForms, (asked p.2).op.fc = p.2 ∧ exec p.1 (asked p.2) = .next (next p.1 (asked p.2)) ∧
      (next p.1 (asked p.2)).res.status = .ok ∧ InRange (block Operands.zero (outputBytes (next p.1 (asked p.2)))) ∧
      inputBytes (block Operands.zero (outputBytes (next p.1 (asked p.2)))) = outputBytes (next p.1 (asked p.2)) := by
  intro p hp
  have h : (next p.1 (asked p.2)).res.status = .ok ∧ (outputBytes (next p.1 (asked p.2))).length ≤ 255 := by
    revert p hp
    decide +kernel
  refine ⟨rfl, ?_, h.1, inRange_block _ _ h.2, inputBytes_block _ _ h.2⟩
  cases p.1 <;> rfl

theorem witness_TcpReadRequestFrames :
    ∀ fc ∈ [0x01#8, 0x02#8, 0x03#8, 0x04#8], ((asked fc).op.fc = fc ∧ InRange (asked fc)) ∧
      ((tooLong (rtuOps 1#8 fc 0#16 0#16 0#1)).op.fc = fc ∧ ¬ InRange (tooLong (rtuOps 1#8 fc 0#16 0#16 0#1))) :=
  fun _ _ => ⟨⟨rfl, inRange_block _ _ (by decide)⟩, rfl, tooLong_outOfRange _⟩

/-- Absent data, one data byte, and enough data with the value bytes of either reading. -/
theorem witness_TcpSingleCoilFrame :
    (∃ s : State, InRange s ∧ s.op.fc = 0x05#8 ∧ s.op.dpres = 0#1) ∧
    (∃ s : State, InRange s ∧ s.op.fc = 0x05#8 ∧ s.op.dpres = 1#1 ∧ s.op.ilen.toNat < 2 ∧ s.op.ilen.toNat = 1) ∧
    (∃ (s : State) (v0 v1 : Byte), InRange s ∧ s.op.fc = 0x05#8 ∧ s.op.dpres = 1#1 ∧ inputBytes s = 0x12#8 :: 0x34#8 :: [] ∧
      (Config.tcpSwValueSrc = .data → v0 = 0x12#8 ∧ v1 = 0x34#8) ∧
      (Config.tcpSwValueSrc = .length → v0 = (if s.op.lv = 0#16 then 0xFF#8 else 0x00#8) ∧ v1 = 0x00#8)) := by
  refine ⟨⟨block (rtuOps 1#8 0x05#8 0#16 0#16 0#1) [], inRange_block _ _ (by decide), rfl, rfl⟩,
    ⟨block (rtuOps 1#8 0x05#8 0#16 0#16 1#1) [0xFF#8], inRange_block _ _ (by decide), rfl, rfl, by decide, by decide⟩, ?_⟩
  cases h : Config.tcpSwValueSrc
  · exact ⟨block (rtuOps 1#8 0x05#8 0#16 0#16 1#1) [0x12#8, 0x34#8], 0x12#8, 0x34#8, inRange_block _ _ (by decide), rfl, rfl,
      inputBytes_block _ _ (by decide), fun _ => ⟨rfl, rfl⟩, (fun hc => by cases hc)⟩
  · exact ⟨block (rtuOps 1#8 0x05#8 0#16 0#16 1#1) [0x12#8, 0x34#8], 0xFF#8, 0x00#8, inRange_block _ _ (by decide), rfl, rfl,
      inputBytes_block _ _ (by decide), (fun hc => by cases hc), fun _ => ⟨by decide, rfl⟩⟩

theorem witness_TcpSingleRegisterFrame :
    (∃ s : State, InRange s ∧ s.op.fc = 0x06#8 ∧ s.op.dpres = 0#1) ∧
    (∃ s : State, InRange s ∧ s.op.fc = 0x06#8 ∧ s.op.dpres = 1#1 ∧ s.op.ilen.toNat < 2 ∧ s.op.ilen.toNat = 1) ∧
    (∃ (s : State) (v0 v1 : Byte), InRange s ∧ s.op.fc = 0x06#8 ∧ s.op.dpres = 1#1 ∧ inputBytes s = 0x12#8 :: 0x34#8 :: [] ∧
      (Config.tcpSwValueSrc = .data → v0 = 0x12#8 ∧ v1 = 0x34#8) ∧
      (Config.tcpSwValueSrc = .length → v0 = hi8 s.op.lv ∧ v1 = lo8 s.op.lv)) := by
  refine ⟨⟨block (rtuOps 1#8 0x06#8 0#16 0#16 0#1) [], inRange_block _ _ (by decide), rfl, rfl⟩,
    ⟨block (rtuOps 1#8 0x06#8 0#16 0#16 1#1) [0xFF#8], inRange_block _ _ (by decide), rfl, rfl, by decide, by decide⟩, ?_⟩
  cases h : Config.tcpSwValueSrc
  · exact ⟨block (rtuOps 1#8 0x06#8 0#16 0x0A0B#16 1#1) [0x12#8, 0x34#8], 0x12#8, 0x34#8, inRange_block _ _ (by decide), rfl, rfl,
      inputBytes_block _ _ (by decide), fun _ => ⟨rfl, rfl⟩, (fun hc => by cases hc)⟩
  · exact ⟨block (rtuOps 1#8 0x06#8 0#16 0x0A0B#16 1#1) [0x12#8, 0x34#8], 0x0A#8, 0x0B#8, inRange_block _ _ (by decide), rfl, rfl,
      inputBytes_block _ _ (by decide), (fun hc => by cases hc), fun _ => ⟨by decide, by decide⟩⟩

theorem witness_TcpMultipleCoilsFrame :
    (∃ s : State, s.op.fc = 0x0F#8 ∧ InRange s ∧ s.op.dpres = 0#1) ∧
    (∃ s : State, s.op.fc = 0x0F#8 ∧ s.op.dpres = 1#1 ∧ 255 < s.op.ilen.toNat ∧ s.op.ilen.toNat = 256) ∧
    (∃ s : State, s.op.fc = 0x0F#8 ∧ s.op.dpres = 1#1 ∧ s.op.ilen.toNat ≤ 255 ∧ s.op.ilen.toNat = 255) ∧
    (∃ s : State, s.op.fc = 0x0F#8 ∧ s.op.dpres = 1#1 ∧ s.op.ilen.toNat ≤ 255 ∧ s.op.ilen.toNat = 0) :=
  ⟨⟨block (rtuOps 1#8 0x0F#8 0#16 10#16 0#1) [], rfl, inRange_block _ _ (by decide), rfl⟩,
   ⟨block (rtuOps 1#8 0x0F#8 0#16 0#16 1#1) (List.replicate 256 0#8), rfl, rfl, by decide +kernel, by decide +kernel⟩,
   ⟨block (rtuOps 1#8 0x0F#8 0#16 0#16 1#1) (List.replicate 255 0#8), rfl, rfl, by decide +kernel, by decide +kernel⟩,
   ⟨block (rtuOps 1#8 0x0F#8 0#16 0#16 1#1) [], rfl, rfl, by decide +kernel, by decide +kernel⟩⟩

theorem witness_TcpMultipleRegistersFrame :
    (∃ s : State, s.op.fc = 0x10#8 ∧ InRange s ∧ s.op.dpres = 0#1) ∧
    (∃ s : State, s.op.fc = 0x10#8 ∧ InRange s ∧ s.op.dpres = 1#1 ∧ s.op.ilen.toNat = 0) ∧
    (∃ s : State, s.op.fc = 0x10#8 ∧ InRange s ∧ s.op.dpres = 1#1 ∧ s.op.ilen.toNat % 2 = 1 ∧ s.op.ilen.toNat = 255) ∧
    (∃ s : State, s.op.fc = 0x10#8 ∧ s.op.dpres = 1#1 ∧ s.op.ilen.toNat % 2 = 0 ∧ 255 < s.op.ilen.toNat ∧ s.op.ilen.toNat = 256) ∧
    (∃ (s : State) (count : Word), s.op.fc = 0x10#8 ∧ s.op.dpres = 1#1 ∧ s.op.ilen.toNat % 2 = 0 ∧ 0 < s.op.ilen.toNat ∧
      s.op.ilen.toNat ≤ 255 ∧ count.toNat * 2 = s.op.ilen.toNat ∧ count = 127#16) :=
  ⟨⟨block (rtuOps 1#8 0x10#8 0#16 10#16 0#1) [], rfl, inRange_block _ _ (by decide), rfl⟩,
   ⟨block (rtuOps 1#8 0x10#8 0#16 10#16 1#1) [], rfl, inRange_block _ _ (by decide), rfl, by decide⟩,
   ⟨block (rtuOps 1#8 0x10#8 0#16 0#16 1#1) (List.replicate 255 0#8), rfl, inRange_block _ _ (by decide +kernel), rfl, by decide +kernel, by decide +kernel⟩,
   ⟨block (rtuOps 1#8 0x10#8 0#16 0#16 1#1) (List.replicate 256 0#8), rfl, rfl, by decide +kernel, by decide +kernel, by decide +kernel⟩,
   ⟨block (rtuOps 1#8 0x10#8 0#16 0#16 1#1) (List.replicate 254 0#8), 127#16, rfl, rfl, by decide +kernel, by decide +kernel, by decide +kernel, by decide +kernel, rfl⟩⟩

theorem witness_TcpUnsupportedFunctionCodeFails :
    ∀ fc ∈ [0x00#8, 0x07#8, 0x0E#8, 0x11#8, 0xFF#8], InRange (asked fc) ∧
      (asked fc).op.fc ∉ [0x01#8, 0x02#8, 0x03#8, 0x04#8, 0x05#8, 0x06#8, 0x0F#8, 0x10#8] := by
  intro fc hfc
  refine ⟨inRange_block _ _ (by decide), ?_⟩
  revert fc hfc
  decide

theorem witness_TcpResponseFrame : InRange (asked 0x83#8) ∧ ¬ InRange (tooLong Operands.zero) :=
  ⟨inRange_block _ _ (by decide), tooLong_outOfRange _⟩

/-- Eleven bytes, and twelve. -/
theorem witness_TcpParseExtractsTheHeader :
    (∃ s : State, InRange s ∧ s.op.ilen.toNat < 12 ∧ s.op.ilen.toNat = 11) ∧
    (∃ (s : State) (tid pid length addr qty : Word) (st fc : Byte) (surplus : List Byte), InRange s ∧
      inputBytes s = [hi8 tid, lo8 tid, hi8 pid, lo8 pid, hi8 length, lo8 length, st, fc, hi8 addr, lo8 addr, hi8 qty, lo8 qty] ++ surplus) ∧
    ¬ InRange (tooLong Operands.zero) :=
  ⟨⟨block Operands.zero (List.replicate 11 0#8), inRange_block _ _ (by decide +kernel), by decide +kernel, by decide +kernel⟩,
   ⟨block Operands.zero ([hi8 1#16, lo8 1#16, hi8 0#16, lo8 0#16, hi8 6#16, lo8 6#16, 1#8, 3#8, hi8 2#16, lo8 2#16, hi8 3#16, lo8 3#16] ++ []),
   1#16, 0#16, 6#16, 2#16, 3#16, 1#8, 3#8, [], inRange_block _ _ (by decide), inputBytes_block _ _ (by decide)⟩, tooLong_outOfRange _⟩

theorem witness_TcpRequestParsesBack :
    ∀ p ∈ tcpForms, (asked p.2).op.fc = p.2 ∧ exec p.1 (asked p.2) = .next (next p.1 (asked p.2)) ∧
      (next p.1 (asked p.2)).res.status = .ok ∧ InRange (block Operands.zero (outputBytes (next p.1 (asked p.2)))) ∧
      inputBytes (block Operands.zero (outputBytes (next p.1 (asked p.2)))) = outputBytes (next p.1 (asked p.2)) := by
  have h5 : ∀ src, (next .tcpBuildReqFc05 (asked 0x05#8)) = (after (tcpBuildReq (tcpPduFc05 Config.tcpSwValueSrc) (asked 0x05#8))).getD (asked 0x05#8) ∧
      ((after (tcpBuildReq (tcpPduFc05 src) (asked 0x05#8))).getD (asked 0x05#8)).res.status = .ok ∧
      (outputBytes ((after (tcpBuildReq (tcpPduFc05 src) (asked 0x05#8))).getD (asked 0x05#8))).length ≤ 255 := by
    intro src
    refine ⟨rfl, ?_⟩
    cases src <;> decide +kernel
  have h6 : ∀ src, (next .tcpBuildReqFc06 (asked 0x06#8)) = (after (tcpBuildReq (tcpPduFc06 Config.tcpSwValueSrc) (asked 0x06#8))).getD (asked 0x06#8) ∧
      ((after (tcpBuildReq (tcpPduFc06 src) (asked 0x06#8))).getD (asked 0x06#8)).res.status = .ok ∧
      (outputBytes ((after (tcpBuildReq (tcpPduFc06 src) (asked 0x06#8))).getD (asked 0x06#8))).length ≤ 255 := by
    intro src
    refine ⟨rfl, ?_⟩
    cases src <;> decide +kernel
  intro p hp
  have h : (next p.1 (asked p.2)).res.status = .ok ∧ (outputBytes (next p.1 (asked p.2))).length ≤ 255 := by
    simp only [tcpForms, List.mem_cons, List.not_mem_nil, or_false] at hp
    rcases hp with rfl | rfl | rfl | rfl | rfl | rfl | rfl | rfl
    all_goals first | decide +kernel | exact (h5 Config.tcpSwValueSrc).2 | exact (h6 Config.tcpSwValueSrc).2
  refine ⟨rfl, ?_, h.1, inRange_block _ _ h.2, inputBytes_block _ _ h.2⟩
  cases p.1 <;> rfl

theorem witness_BitArrayIsLeastSignificantFirst : 0 < [0x80#8].length ∧ 7 < 8 := by decide

theorem witness_RegisterArrayPairsBigEndian : [0x12#8, 0x34#8].length % 2 = 0 ∧ 2 * 0 + 1 < [0x12#8, 0x34#8].length := by decide

theorem witness_GetBitsListsTheBits :
    ∀ fc ∈ [0x01#8, 0x02#8], InRange (asked fc) ∧ ((asked fc).op.fc = 0x01#8 ∨ (asked fc).op.fc = 0x02#8) ∧
      InRange (asked 0x00#8) ∧ (asked 0x00#8).op.fc ≠ 0x01#8 ∧ (asked 0x00#8).op.fc ≠ 0x02#8 ∧ ¬ InRange (tooLong (asked fc).op) := by
  intro fc hfc
  refine ⟨inRange_block _ _ (by decide), ?_, inRange_block _ _ (by decide), by decide, by decide, tooLong_outOfRange _⟩
  revert fc hfc
  decide

/-- Two bytes (even), one byte (odd), and another function code. -/
theorem witness_GetRegsListsTheRegisters :
    ∀ fc ∈ [0x03#8, 0x04#8],
      (InRange (asked fc) ∧ ((asked fc).op.fc = 0x03#8 ∨ (asked fc).op.fc = 0x04#8) ∧ (asked fc).op.ilen.toNat % 2 = 0) ∧
      (InRange (block (rtuOps 1#8 fc 0#16 0#16 0#1) [0x12#8]) ∧
        ((block (rtuOps 1#8 fc 0#16 0#16 0#1) [0x12#8]).op.fc = 0x03#8 ∨ (block (rtuOps 1#8 fc 0#16 0#16 0#1) [0x12#8]).op.fc = 0x04#8) ∧
        (block (rtuOps 1#8 fc 0#16 0#16 0#1) [0x12#8]).op.ilen.toNat % 2 = 1) ∧
      (InRange (asked 0x02#8) ∧ (asked 0x02#8).op.fc ≠ 0x03#8 ∧ (asked 0x02#8).op.fc ≠ 0x04#8) := by
  intro fc hfc
  have h : (fc = 0x03#8 ∨ fc = 0x04#8) ∧ (asked fc).op.ilen.toNat % 2 = 0 ∧
      (block (rtuOps 1#8 fc 0#16 0#16 0#1) [0x12#8]).op.ilen.toNat % 2 = 1 := by revert fc hfc; decide
  exact ⟨⟨inRange_block _ _ (by decide), h.1, h.2.1⟩, ⟨inRange_block _ _ (by decide), h.1, h.2.2⟩, inRange_block _ _ (by decide),
    by decide, by decide⟩

theorem witness_IllegalOpcodesOnlySetStatus :
    isOperation .illegalOp00 = false ∧ isOperation (.illegalOp0A0B 0x0A#8) = false ∧ isOperation (.illegalOp80FF 0xFF#8) = false := by decide

theorem witness_InputTooLongIsRangeFirst : isOperation .rtuBuildUnsupported = true ∧ ¬ InRange (tooLong Operands.zero) :=
  ⟨rfl, tooLong_outOfRange _⟩

/-- A command with output, one with entries, one that fails: for the statements about every command that ends in a next state. -/
theorem witness_CommandsLeaveOperandsAndInput : exec .rtuBuildFc10 (asked 0x10#8) = .next (next .rtuBuildFc10 (asked 0x10#8)) := rfl

theorem witness_CommandsStoreOnlyTheirOutput :
    exec .rtuBuildFc01 (asked 0x01#8) = .next (next .rtuBuildFc01 (asked 0x01#8)) ∧ (next .rtuBuildFc01 (asked 0x01#8)).res.olen.toNat ≤ 8 ∧
    exec .getBits (asked 0x01#8) = .next (next .getBits (asked 0x01#8)) ∧ (next .getBits (asked 0x01#8)).res.vcnt.toNat ≤ 16 :=
  ⟨rfl, by decide +kernel, rfl, by decide +kernel⟩

theorem witness_ErrorsLeaveOnlyStatus :
    exec .getRegs (asked 0x01#8) = .next (next .getRegs (asked 0x01#8)) ∧ (next .getRegs (asked 0x01#8)).res.status ≠ .ok :=
  ⟨rfl, by decide +kernel⟩

theorem witness_OperationsEndWithTheirOwnStatuses : exec .tcpParse (asked 0x01#8) = .next (next .tcpParse (asked 0x01#8)) := rfl

/-- `VALID` set, `TRUNC` set, and the first of the other bits. -/
theorem witness_FlagsAreSetByTheirOperationOnly :
    (exec .crcValidate (framed [1#8, 3#8]) = .next (next .crcValidate (framed [1#8, 3#8])) ∧
      flagValid (next .crcValidate (framed [1#8, 3#8])).res.flags = true) ∧
    (exec .rtuParse (framed [1#8, 3#8]) = .next (next .rtuParse (framed [1#8, 3#8])) ∧
      flagTrunc (next .rtuParse (framed [1#8, 3#8])).res.flags = true) ∧ 2 ≤ 2 :=
  ⟨⟨rfl, by decide +kernel⟩, ⟨rfl, by decide +kernel⟩, Nat.le_refl _⟩

/-- Two states with other transaction ids, results, buffers and counts: `RTU_BUILD` reads none of them. -/
theorem witness_CommandsDependOnTheirOperandsOnly :
    ∃ s₁ s₂ : State, s₁.op ≠ s₂.op ∧ s₁.obuf ≠ s₂.obuf ∧ s₁.commandCount ≠ s₂.commandCount ∧ agreeOnRead .rtuBuildFc10 s₁.op s₂.op ∧
      readsInput .rtuBuildFc10 = true ∧ inputBytes s₁ = inputBytes s₂ :=
  ⟨asked 0x10#8,
   { block (tcpOps 8#16 0x11#8 0x10#8 0x0102#16 9#16 1#1) [0xFF#8, 0x00#8] with obuf := [(0, 1#8)], commandCount := 3 },
   by decide, by decide, by decide, ⟨rfl, rfl, rfl, rfl, rfl, rfl⟩, rfl, rfl⟩

theorem witness_DisplayNumberByRegisterKind :
    0x0F#8 ∈ [0x01#8, 0x05#8, 0x0F#8] ∧ 0x10#8 ∈ [0x03#8, 0x06#8, 0x10#8] ∧ 0x00#8 ∉ supportedFunctionCodes ∧
      0x11#8 ∉ supportedFunctionCodes := by decide

theorem witness_AllowedMovesSucceedOthersAreRefused :
    (HostMove.writeReg 0x06 1).allowed = true ∧ (HostMove.writeReg 0x06 2).allowed = false ∧ (HostMove.readReg 0x1C).allowed = true ∧
      (HostMove.readReg 0x1D).allowed = false ∧ (HostMove.readIbuf (Config.inCap - 1)).allowed = true ∧
      (HostMove.readIbuf Config.inCap).allowed = false := by
  have h := inCap_bounds
  refine ⟨by decide, by decide, by decide, by decide, ?_, ?_⟩ <;> simp only [HostMove.allowed, decide_eq_true_eq, decide_eq_false_iff_not] <;> omega

/-- The largest value of each operand register. -/
theorem witness_OperandWriteChangesOneRegister :
    ∀ r ∈ [Reg.opStation, .opFc, .opAddr, .opLv, .opTid, .opPid, .opDpres, .opIlen],
      regNumber r < 8 ∧ 2 ^ regWidth r - 1 < 2 ^ regWidth r ∧
      ({ State.reset with moves := [.writeReg (regNumber r) (2 ^ regWidth r - 1)] } : State).moves =
        .writeReg (regNumber r) (2 ^ regWidth r - 1) :: [] := by decide

theorem witness_InputWriteChangesOneByte :
    Config.inCap - 1 < Config.inCap ∧
      ({ sample with moves := [.writeIbuf (Config.inCap - 1) 1#8] } : State).moves = .writeIbuf (Config.inCap - 1) 1#8 :: [] := by
  have h := inCap_bounds
  exact ⟨by omega, rfl⟩

/-- One read of each kind, at the highest index of each buffer. -/
theorem witness_HostReadsChangeNothing :
    HostMove.readReg 0x1C = .readReg (regNumber .rDisp) ∧ Config.inCap - 1 < Config.inCap ∧ Config.outCap - 1 < Config.outCap ∧
      Config.valCap - 1 < Config.valCap := by
  have h := inCap_bounds
  have ho := outCap_bound
  have hv := valCap_bound
  exact ⟨rfl, by omega, by omega, by omega⟩

theorem witness_ReadOnlyWritesAreIgnored :
    (0x10 ≤ regNumber .status ∧ 0x55 < 2 ^ regWidth .status ∧ HostMove.writeReg 0x10 0x55 = .writeReg (regNumber .status) 0x55) ∧
    (0x10 ≤ regNumber .rDisp ∧ 2 ^ 32 - 1 < 2 ^ regWidth .rDisp ∧
      HostMove.writeReg 0x1C (2 ^ 32 - 1) = .writeReg (regNumber .rDisp) (2 ^ 32 - 1)) ∧
    0 < Config.outCap ∧ 0 < Config.valCap := by
  have h := inCap_bounds
  have ho := outCap_bound
  have hv := valCap_bound
  exact ⟨⟨by decide, by decide, rfl⟩, ⟨by decide, by decide, rfl⟩, by omega, by omega⟩

theorem witness_ResultsLastUntilTheNextCommand :
    ∃ t, ({ sample with moves := [.writeReg 0x07 0] } : State).moves = .writeReg 0x07 0 :: [] ∧ startedOpcode (.writeReg 0x07 0) = none ∧
      HostMove.writeReg 0x07 0 ≠ .reset ∧ step { sample with moves := [.writeReg 0x07 0] } = .next t :=
  ⟨_, rfl, by decide, by decide, rfl⟩

theorem witness_CopyLineMakesTheOutputTheInput :
    ∃ s : State, s.moves = [] ∧ s.res.olen.toNat ≤ Config.inCap ∧ s.res.olen.toNat ≤ Config.outCap ∧ s.res.olen.toNat = 8 :=
  ⟨next .rtuBuildFc01 (asked 0x01#8), by decide +kernel, le_inCap (by decide +kernel),
   le_trans (le_inCap (by decide +kernel : _ ≤ 255)) (le_trans (Nat.le_add_right _ 13) outCap_bound), by decide +kernel⟩

/-- The limits of the logical range, a prefix that is none, no digits, a value of 0 and one just above the range. -/
theorem witness_LogicalAddressIsOneBased :
    (decimal 5 ['1'] = some 1 ∧ 1 ≤ 1 ∧ 1 ≤ 65535) ∧ (decimal 5 ['6', '5', '5', '3', '5'] = some 65535 ∧ 1 ≤ 65535 ∧ 65535 ≤ 65535) ∧
      '0' ∉ ['1', '2', '3', '4'] ∧ '5' ∉ ['1', '2', '3', '4'] ∧ decimal 5 [] = none ∧ decimal 5 ['0'] = some 0 ∧
      (decimal 5 ['6', '5', '5', '3', '6'] = some 65536 ∧ 65535 < 65536) ∧ 65535 ≤ 65535 := by decide

theorem witness_FieldCountSelectsTheForm :
    ([['1'], [], ['0']] ≠ [] ∧ ∀ f ∈ [['1'], [], ['0']], ';' ∉ f) ∧ splitFields "256;3;0".toList = ["256".toList, "3".toList, "0".toList] ∧
    splitFields "1;3".toList = ["1".toList, "3".toList] ∧
    ((splitFields "1".toList).length ≠ 2 ∧ (splitFields "1".toList).length ≠ 3) ∧
    ((splitFields "1;2;3;4".toList).length ≠ 2 ∧ (splitFields "1;2;3;4".toList).length ≠ 3) := by decide +kernel

/-- One header for each register type; both kinds of a single register. -/
theorem witness_EnhancedFormInfersTheFunctionCode :
    ';' ∉ ['1'] ∧ byteField ['1'] = some 1#8 ∧
    (';' ∉ ['1', '1'] ∧ addressField ['1', '1'] = some (.coil, 0#16)) ∧ (';' ∉ ['2', '2'] ∧ addressField ['2', '2'] = some (.discreteInput, 1#16)) ∧
    (';' ∉ ['3'] ∧ addressField ['3'] = some (.holdingRegister, 3#16)) ∧ (';' ∉ ['3', '9'] ∧ addressField ['3', '9'] = some (.inputRegister, 8#16)) ∧
    (DataKind.int16 = .int16 ∨ DataKind.int16 = .uint16) ∧ DataKind.double ≠ .int16 ∧ DataKind.double ≠ .uint16 := by decide +kernel

/-- The largest of each field, and both error kinds. -/
theorem witness_ResolvedRequestRunsThePacker :
    resolve "255;255;65535".toList .int16 false = .ok ⟨255#8, 255#8, 65535#16⟩ ∧ State.reset.moves = [] ∧
      resolve "1;3;65536".toList .int16 false = .error .malformedHeader ∧ resolve "1;21".toList .int16 true = .error .readOnlyRegister := by
  decide +kernel

end Sys2Proof.Tests
end

section
/-! PROOFS. The state family: how every command and every host move ends, said once, and from it the invariant, the frame of a command, the
flags and the access rights (10_state.md R13 to R29). -/

namespace Sys2Proof.Machine

open Sys2Proof.Claims

/-! ## Lengths of what the bodies build -/

theorem slice_length_le {α : Type} (l : List α) (a b : Nat) : (slice l a b).length ≤ min b l.length := by
  simp only [slice, List.length_drop, List.length_take]
  omega

@[simp] theorem rtuAddressAndWord_length (s : State) : (rtuAddressAndWord s).length = 4 := rfl

theorem length_of_dataOperand {s : State} {data : List Byte} (h : dataOperand s = some data) : data.length = s.op.ilen.toNat := by
  unfold dataOperand at h
  split at h
  · rw [← Option.some.inj h, inputBytes_length]
  · cases h

theorem rtuPayload_length_le (raw : List Byte) (fc count : Byte) (lim : Nat) : (rtuPayload raw fc count lim).1.length ≤ raw.length := by
  unfold rtuPayload
  split
  · exact le_trans (slice_length_le ..) (Nat.min_le_right ..)
  · exact Nat.zero_le _

@[simp] theorem bits_length (p : List Byte) : (bits p).length = 8 * p.length := by
  simp [bits, byteBits, List.length_flatMap, Nat.mul_comm]

theorem regs_length_le (p : List Byte) : (regs p).length ≤ p.length := by
  induction p using regs.induct with
  | case1 b0 b1 rest ih => simp only [regs, List.length_cons]; omega
  | case2 p h => simp [regs]

/-! ## Values of the flags and the display number -/

/-- The largest display number is that of register 65535 of the holding registers (10_state.md R18). -/
theorem displayAddress_le (fc : Byte) (addr : Word) : displayAddress fc addr ≤ 105536 := by
  have := addr.isLt
  unfold displayAddress
  split_ifs <;> omega

/-- Replacing one of the two flags leaves bits 7:2 clear (10_state.md R16): the mask keeps those bits and the new flag has none of them. -/
theorem reserved_of_mask_or {flags mask bit : Byte} (h : flags &&& 0xFC#8 = 0#8) (hmask : mask &&& 0xFC#8 = 0xFC#8)
    (hbit : bit &&& 0xFC#8 = 0#8) : (flags &&& mask ||| bit) &&& 0xFC#8 = 0#8 := by
  rw [BitVec.and_comm, BitVec.and_or_distrib_left, BitVec.and_comm _ bit, hbit, BitVec.or_zero, BitVec.and_comm, BitVec.and_assoc, hmask, h]

theorem setValid_reserved (b : Bool) {flags : Byte} (h : flags &&& 0xFC#8 = 0#8) : setValid b flags &&& 0xFC#8 = 0#8 :=
  reserved_of_mask_or h rfl (by cases b <;> rfl)

theorem setTrunc_reserved (b : Bool) {flags : Byte} (h : flags &&& 0xFC#8 = 0#8) : setTrunc b flags &&& 0xFC#8 = 0#8 :=
  reserved_of_mask_or h rfl (by cases b <;> rfl)

/-- A value below 4 has no bit from bit 2 upward. -/
theorem getLsbD_of_lt_four {flags : Byte} (h : flags.toNat < 4) (k : Nat) (hk : 2 ≤ k) : flags.getLsbD k = false :=
  Nat.testBit_lt_two_pow (h.trans_le (show 2 ^ 2 ≤ 2 ^ k from Nat.pow_le_pow_right Nat.two_pos hk))

/-! ## How a command ends -/

/-- What the operation of `i` may write to the results when it ends well, `STATUS` and the two lengths aside: `VALID` by `CRC_VALIDATE`,
`TRUNC` by `RTU_PARSE` (10_state.md R13), a display number to `R_DISP` (R18), anything to the registers no invariant speaks of. -/
structure Fills (i : Instr) (r r' : Results) : Prop where
  status_eq : r'.status = r.status
  olen_eq : r'.olen = r.olen
  vcnt_eq : r'.vcnt = r.vcnt
  flags_eq : r'.flags = r.flags ∨ (∃ b, i = .crcValidate ∧ r'.flags = setValid b r.flags) ∨
    (∃ b, i = .rtuParse ∧ r'.flags = setTrunc b r.flags)
  disp_eq : r'.disp = r.disp ∨ ∃ fc addr, r'.disp = BitVec.ofNat 32 (displayAddress fc addr)

/-- Every way the command `i` ends, from the state `s` in which it has started: by an error that its row of 60_exceptions.md R193 lists, or
well, with results alone, with an output or with entries. The bounds are those that `OUT_CAP` and `VAL_CAP` are made for (00_scope.md R7). -/
inductive Ends (i : Instr) (s : State) : State → Prop
  | raised {kind : Status} (listed : kind ∈ statusesOf i) : Ends i s (raise kind s)
  | filled {f : Results → Results} (fills : Fills i s.res (f s.res)) : Ends i s (setResults f s)
  | emitted {f : Results → Results} {bytes : List Byte} (inRange : InRange s) (length_le : bytes.length ≤ s.op.ilen.toNat + 13)
      (fills : Fills i (emit bytes s).res (f (emit bytes s).res)) : Ends i s (setResults f (emit bytes s))
  | entered {f : Results → Results} {entries : List Word} (inRange : InRange s) (length_le : entries.length ≤ 8 * s.op.ilen.toNat)
      (fills : Fills i (emitv entries s).res (f (emitv entries s).res)) : Ends i s (setResults f (emitv entries s))

/-- A value with the property `P`, or an error that the row of `i` lists. -/
def OkOr {α : Type} (i : Instr) (P : α → Prop) : Except Status α → Prop
  | .ok a => P a
  | .error kind => kind ∈ statusesOf i

theorem OkOr.ok {α : Type} {i : Instr} {P : α → Prop} {a : α} (h : P a) : OkOr i P (.ok a) := h

theorem OkOr.error {α : Type} {i : Instr} {P : α → Prop} {kind : Status} (h : kind ∈ statusesOf i) : OkOr i P (.error kind) := h

theorem OkOr.map {α β : Type} {i : Instr} {P : α → Prop} {Q : β → Prop} {x : Except Status α} {g : α → β} (h : OkOr i P x)
    (hg : ∀ a, P a → Q (g a)) : OkOr i Q (x.map g) := by
  cases x with
  | ok a => exact hg a h
  | error kind => exact h

/-- An operation ends as its body does, or in `RANGE` before it. -/
theorem operation_ends {i : Instr} {opcode : Byte} {body : State → Except Status State} (hrange : .range ∈ statusesOf i)
    (hbody : ∀ s, InRange s → OkOr i (Ends i s) (body s)) (s : State) :
    ∃ t, operation opcode body s = .next t ∧ Ends i (startCommand opcode s) t := by
  refine ⟨_, rfl, ?_⟩
  rcases runOperation_cases opcode body s with ⟨_, hrun⟩ | ⟨hin, kind, hkind, hrun⟩ | ⟨hin, t, ht, hrun⟩
  · rw [hrun]; exact .raised hrange
  · have h := hbody (startCommand opcode s) hin
    rw [hkind] at h
    rw [hrun]; exact .raised h
  · have h := hbody (startCommand opcode s) hin
    rw [ht] at h
    rw [hrun]; exact h

theorem illegalOpcode_ends {i : Instr} (h : .illegalOp ∈ statusesOf i) (opcode : Byte) (s : State) :
    ∃ t, illegalOpcode opcode s = .next t ∧ Ends i (startCommand opcode s) t :=
  ⟨_, rfl, .raised h⟩

/-! ### The two packers of requests -/

/-- A packer's form gives bytes that fit behind the longest header, seven bytes, into the least `OUT_CAP`. -/
def Builds (i : Instr) (body : State → Except Status (List Byte)) : Prop :=
  ∀ s, OkOr i (fun bytes => bytes.length ≤ s.op.ilen.toNat + 6) (body s)

theorem rtuBuild_ends {i : Instr} {body : State → Except Status (List Byte)} (hrange : .range ∈ statusesOf i) (hbody : Builds i body)
    (s : State) : ∃ t, rtuBuild body s = .next t ∧ Ends i (startCommand opcodeRtuBuild s) t := by
  refine operation_ends hrange (fun u hin => (hbody u).map fun bytes hlen => ?_) s
  refine .emitted hin ?_ ⟨rfl, rfl, rfl, .inl rfl, .inl rfl⟩
  simp only [rtuHead, List.length_append, List.length_cons, List.length_nil, crcBytes_length]
  omega

theorem tcpBuildReq_ends {i : Instr} {pdu : State → Except Status (List Byte)} (hrange : .range ∈ statusesOf i) (hpdu : Builds i pdu)
    (s : State) : ∃ t, tcpBuildReq pdu s = .next t ∧ Ends i (startCommand opcodeTcpBuildReq s) t := by
  refine operation_ends hrange (fun u hin => (hpdu u).map fun bytes hlen => ?_) s
  refine .emitted hin ?_ ⟨rfl, rfl, rfl, .inl rfl, .inr ⟨_, _, rfl⟩⟩
  simp only [mbapHeader, List.length_append, List.length_cons, List.length_nil, be16_length]
  omega

theorem builds_of_length_le_six {i : Instr} {bytes : State → List Byte} (h : ∀ s, (bytes s).length ≤ 6) :
    Builds i (fun s => .ok (bytes s)) :=
  fun s => OkOr.ok (le_trans (h s) (Nat.le_add_left ..))

theorem rtuAddressAndWord_builds {i : Instr} : Builds i (fun s => .ok (rtuAddressAndWord s)) :=
  builds_of_length_le_six fun s => by simp

theorem rtuBodyFc05_builds : Builds .rtuBuildFc05 rtuBodyFc05 :=
  builds_of_length_le_six fun s => by simp [singleCoilBytes]

theorem rtuBodyFc0F_builds : Builds .rtuBuildFc0F rtuBodyFc0F := by
  intro s
  unfold rtuBodyFc0F
  split
  · exact .error (by decide)
  · next data hdata =>
    split
    · exact .error (by decide)
    · refine .ok ?_
      simp only [List.length_append, List.length_cons, List.length_nil, rtuAddressAndWord_length, length_of_dataOperand hdata]
      omega

theorem rtuBodyFc10_builds : Builds .rtuBuildFc10 rtuBodyFc10 := by
  intro s
  unfold rtuBodyFc10
  split
  · exact .error (by decide)
  · next data hdata =>
    split
    · exact .error (by decide)
    · refine .ok ?_
      simp only [List.length_append, List.length_cons, List.length_nil, rtuAddressAndWord_length, length_of_dataOperand hdata]
      omega

theorem unsupported_builds {i : Instr} (h : .unsupportedFunctionCode ∈ statusesOf i) :
    Builds i (fun _ => .error .unsupportedFunctionCode) :=
  fun _ => OkOr.error h

/-- The PDU of the four read forms: function code, address, quantity (43_tcp_build.md R131 to R134). -/
theorem readPdu_builds {i : Instr} (code : Byte) : Builds i (fun s => .ok ([code] ++ be16 s.op.addr ++ be16 s.op.lv)) :=
  builds_of_length_le_six fun s => by simp

theorem tcpPduFc05_builds (src : Config.ValueSource) : Builds .tcpBuildReqFc05 (tcpPduFc05 src) := by
  intro s
  have hslice : (slice (inputBytes s) 0 2).length ≤ 2 := le_trans (slice_length_le ..) (Nat.min_le_left ..)
  unfold tcpPduFc05
  split
  · exact .error (by decide)
  · cases src with
    | data =>
      refine .ok ?_
      simp only [List.length_append, List.length_cons, List.length_nil, be16_length]
      omega
    | length => exact .ok (by simp [singleCoilBytes])

theorem tcpPduFc06_builds (src : Config.ValueSource) : Builds .tcpBuildReqFc06 (tcpPduFc06 src) := by
  intro s
  have hslice : (slice (inputBytes s) 0 2).length ≤ 2 := le_trans (slice_length_le ..) (Nat.min_le_left ..)
  unfold tcpPduFc06
  split
  · exact .error (by decide)
  · cases src with
    | data =>
      refine .ok ?_
      simp only [List.length_append, List.length_cons, List.length_nil, be16_length]
      omega
    | length => exact .ok (by simp)

theorem tcpPduFc0F_builds : Builds .tcpBuildReqFc0F tcpPduFc0F := by
  intro s
  unfold tcpPduFc0F
  split
  · exact .error (by decide)
  · next data hdata =>
    split
    · exact .error (by decide)
    · refine .ok ?_
      simp only [List.length_append, List.length_cons, List.length_nil, be16_length, length_of_dataOperand hdata]
      omega

theorem tcpPduFc10_builds : Builds .tcpBuildReqFc10 tcpPduFc10 := by
  intro s
  unfold tcpPduFc10
  split
  · exact .error (by decide)
  · split
    · exact .error (by decide)
    · refine .ok ?_
      simp only [List.length_append, List.length_cons, List.length_nil, be16_length, inputBytes_length]
      omega

/-! ### The other operations -/

theorem crc16Body_ends (s : State) : OkOr .crc16 (Ends .crc16 s) (crc16Body s) :=
  .ok (.filled ⟨rfl, rfl, rfl, .inl rfl, .inl rfl⟩)

theorem crcValidateBody_ends (s : State) : OkOr .crcValidate (Ends .crcValidate s) (crcValidateBody s) := by
  unfold crcValidateBody
  split
  · exact .error (by decide)
  · next valid _ => exact .ok (.filled ⟨rfl, rfl, rfl, .inr (.inl ⟨valid, rfl, rfl⟩), .inl rfl⟩)

theorem rtuParseBody_ends {s : State} (hin : InRange s) : OkOr .rtuParse (Ends .rtuParse s) (rtuParseBody s) := by
  have hraw := inputBytes_length s
  unfold rtuParseBody
  split
  · next st fc count last rest hinput =>
    rw [hinput] at hraw
    dsimp only
    split
    · refine .ok (.emitted hin ?_ ⟨rfl, rfl, rfl, .inr (.inr ⟨_, rfl, rfl⟩), .inl rfl⟩)
      exact le_trans (rtuPayload_length_le ..) (hraw ▸ Nat.le_add_right ..)
    · exact .error (by decide)
  · exact .error (by decide)

theorem tcpBuildRespBody_ends {s : State} (hin : InRange s) : OkOr .tcpBuildResp (Ends .tcpBuildResp s) (tcpBuildRespBody s) := by
  refine .ok (.emitted hin ?_ ⟨rfl, rfl, rfl, .inl rfl, .inl rfl⟩)
  simp only [mbapHeader, List.length_append, List.length_cons, List.length_nil, be16_length, inputBytes_length]
  omega

theorem tcpParseBody_ends (s : State) : OkOr .tcpParse (Ends .tcpParse s) (tcpParseBody s) := by
  unfold tcpParseBody
  split
  · exact .ok (.filled ⟨rfl, rfl, rfl, .inl rfl, .inl rfl⟩)
  · exact .error (by decide)

theorem getBitsBody_ends {s : State} (hin : InRange s) : OkOr .getBits (Ends .getBits s) (getBitsBody s) := by
  unfold getBitsBody
  split
  · exact .ok (.entered hin (by simp) ⟨rfl, rfl, rfl, .inl rfl, .inl rfl⟩)
  · exact .error (by decide)

theorem getRegsBody_ends {s : State} (hin : InRange s) : OkOr .getRegs (Ends .getRegs s) (getRegsBody s) := by
  have hregs := regs_length_le (inputBytes s)
  rw [inputBytes_length] at hregs
  unfold getRegsBody
  split
  · split
    · exact .error (by decide)
    · exact .ok (.entered hin (by omega) ⟨rfl, rfl, rfl, .inl rfl, .inl rfl⟩)
  · exact .error (by decide)

/-! ### Every command -/

/-- Every command of every state ends in a next state, in one of the ways of `Ends` (60_exceptions.md R197). -/
theorem exec_ends (i : Instr) (s : State) : ∃ t, exec i s = .next t ∧ Ends i (startCommand (opcodeOf i) s) t := by
  cases i with
  | crc16 => exact operation_ends (by decide) (fun u _ => crc16Body_ends u) s
  | crcValidate => exact operation_ends (by decide) (fun u _ => crcValidateBody_ends u) s
  | rtuBuildFc01 => exact rtuBuild_ends (by decide) rtuAddressAndWord_builds s
  | rtuBuildFc02 => exact rtuBuild_ends (by decide) rtuAddressAndWord_builds s
  | rtuBuildFc03 => exact rtuBuild_ends (by decide) rtuAddressAndWord_builds s
  | rtuBuildFc04 => exact rtuBuild_ends (by decide) rtuAddressAndWord_builds s
  | rtuBuildFc05 => exact rtuBuild_ends (by decide) rtuBodyFc05_builds s
  | rtuBuildFc06 => exact rtuBuild_ends (by decide) rtuAddressAndWord_builds s
  | rtuBuildFc0F => exact rtuBuild_ends (by decide) rtuBodyFc0F_builds s
  | rtuBuildFc10 => exact rtuBuild_ends (by decide) rtuBodyFc10_builds s
  | rtuBuildUnsupported => exact rtuBuild_ends (by decide) (unsupported_builds (by decide)) s
  | rtuParse => exact operation_ends (by decide) (fun _ => rtuParseBody_ends) s
  | tcpBuildReqFc01 => exact tcpBuildReq_ends (by decide) (readPdu_builds _) s
  | tcpBuildReqFc02 => exact tcpBuildReq_ends (by decide) (readPdu_builds _) s
  | tcpBuildReqFc03 => exact tcpBuildReq_ends (by decide) (readPdu_builds _) s
  | tcpBuildReqFc04 => exact tcpBuildReq_ends (by decide) (readPdu_builds _) s
  | tcpBuildReqFc05 => exact tcpBuildReq_ends (by decide) (tcpPduFc05_builds _) s
  | tcpBuildReqFc06 => exact tcpBuildReq_ends (by decide) (tcpPduFc06_builds _) s
  | tcpBuildReqFc0F => exact tcpBuildReq_ends (by decide) tcpPduFc0F_builds s
  | tcpBuildReqFc10 => exact tcpBuildReq_ends (by decide) tcpPduFc10_builds s
  | tcpBuildReqUnsupported => exact tcpBuildReq_ends (by decide) (unsupported_builds (by decide)) s
  | tcpBuildResp => exact operation_ends (by decide) (fun _ => tcpBuildRespBody_ends) s
  | tcpParse => exact operation_ends (by decide) (fun u _ => tcpParseBody_ends u) s
  | getBits => exact operation_ends (by decide) (fun _ => getBitsBody_ends) s
  | getRegs => exact operation_ends (by decide) (fun _ => getRegsBody_ends) s
  | illegalOp00 => exact illegalOpcode_ends (by decide) _ s
  | illegalOp0A0B op => exact illegalOpcode_ends (List.mem_singleton_self _) op s
  | illegalOp0C0F op => exact illegalOpcode_ends (List.mem_singleton_self _) op s
  | illegalOp101F op => exact illegalOpcode_ends (List.mem_singleton_self _) op s
  | illegalOp203F op => exact illegalOpcode_ends (List.mem_singleton_self _) op s
  | illegalOp407F op => exact illegalOpcode_ends (List.mem_singleton_self _) op s
  | illegalOp80FF op => exact illegalOpcode_ends (List.mem_singleton_self _) op s

theorem ends_of_exec {i : Instr} {s t : State} (h : exec i s = .next t) : Ends i (startCommand (opcodeOf i) s) t := by
  obtain ⟨u, hu, hends⟩ := exec_ends i s
  rw [hu] at h
  cases h
  exact hends

/-! ## What every ending keeps -/

theorem Ends.untouched {i : Instr} {s t : State} (h : Ends i s t) : Untouched s t := by
  cases h <;> exact ⟨rfl, rfl, rfl, rfl, rfl⟩

theorem Ends.cmd_eq {i : Instr} {s t : State} (h : Ends i s t) : t.cmd = s.cmd := by
  cases h <;> rfl

theorem Untouched.ibufByte_eq {s t : State} (h : Untouched s t) (a : Nat) : ibufByte t a = ibufByte s a := by
  rw [ibufByte, ibufByte, h.ibuf_eq, h.resetCount_eq]

/-- Starting a command touches nothing of what no command touches, so the frame of the ending is that of the command. -/
theorem Ends.untouched_of_start {i : Instr} {op : Byte} {s t : State} (h : Ends i (startCommand op s) t) : Untouched s t :=
  ⟨h.untouched.op_eq, h.untouched.ibuf_eq, h.untouched.moves_eq, h.untouched.answers_eq, h.untouched.resetCount_eq⟩

theorem Fills.flags_of_zero {i : Instr} {r r' : Results} (h : Fills i r r') (hr : r.flags = 0#8) :
    r'.flags = 0#8 ∨ (i = .crcValidate ∧ r'.flags = 1#8) ∨ (i = .rtuParse ∧ r'.flags = 2#8) := by
  rcases h.flags_eq with hf | ⟨b, hi, hf⟩ | ⟨b, hi, hf⟩ <;> rw [hr] at hf
  · exact .inl hf
  · cases b with
    | false => exact .inl hf
    | true => exact .inr (.inl ⟨hi, hf⟩)
  · cases b with
    | false => exact .inl hf
    | true => exact .inr (.inr ⟨hi, hf⟩)

/-- From clear flags, a command ends with no flag, with `VALID` alone or with `TRUNC` alone (10_state.md R13, R16). -/
theorem Ends.flags_of_zero {i : Instr} {s t : State} (h : Ends i s t) (hs : s.res.flags = 0#8) :
    t.res.flags = 0#8 ∨ (i = .crcValidate ∧ t.res.flags = 1#8) ∨ (i = .rtuParse ∧ t.res.flags = 2#8) := by
  cases h with
  | raised _ => exact .inl rfl
  | filled fills => exact fills.flags_of_zero hs
  | emitted _ _ fills => exact fills.flags_of_zero hs
  | entered _ _ fills => exact fills.flags_of_zero hs

/-! ## The invariant -/

/-- The invariant speaks of the results and the buffers alone. -/
theorem State.Inv.congr {s t : State} (h : State.Inv s) (hres : t.res = s.res) (hibuf : t.ibuf = s.ibuf) (hobuf : t.obuf = s.obuf)
    (hvbuf : t.vbuf = s.vbuf) : State.Inv t := by
  constructor <;> simp only [hres, hibuf, hobuf, hvbuf]
  exacts [h.ibuf_wf, h.obuf_wf, h.vbuf_wf, h.ibuf_within, h.obuf_within, h.vbuf_within, h.olen_le, h.vcnt_le, h.obuf_written,
    h.vbuf_written, h.flags_reserved, h.disp_le, h.status_produced, h.error_only_status]

/-- Results that are zero but for `STATUS` meet the invariant over any buffers that do. -/
theorem State.Inv.of_only_status {s t : State} {kind : Status} (h : State.Inv s)
    (hkind : kind ≠ .malformedHeader ∧ kind ≠ .readOnlyRegister) (hres : t.res = { Results.cleared with status := kind })
    (hibuf : t.ibuf = s.ibuf) (hobuf : t.obuf = s.obuf) (hvbuf : t.vbuf = s.vbuf) : State.Inv t where
  ibuf_wf := hibuf ▸ h.ibuf_wf
  obuf_wf := hobuf ▸ h.obuf_wf
  vbuf_wf := hvbuf ▸ h.vbuf_wf
  ibuf_within := hibuf ▸ h.ibuf_within
  obuf_within := hobuf ▸ h.obuf_within
  vbuf_within := hvbuf ▸ h.vbuf_within
  olen_le := by simp [hres, Results.cleared]
  vcnt_le := by simp [hres, Results.cleared]
  obuf_written := by simp [hres, Results.cleared]
  vbuf_written := by simp [hres, Results.cleared]
  flags_reserved := by simp [hres, Results.cleared]
  disp_le := by simp [hres, Results.cleared]
  status_produced := by simpa [hres] using hkind
  error_only_status := by simp [hres]

theorem reset_inv : State.Inv State.reset := by
  constructor <;> simp [State.reset, Results.cleared, Memory.wf, Memory.within]

theorem startCommand_inv {s : State} (h : State.Inv s) (op : Byte) : State.Inv (startCommand op s) :=
  h.of_only_status (kind := .ok) ⟨nofun, nofun⟩ rfl rfl rfl rfl

theorem raise_inv {s : State} {kind : Status} (h : State.Inv s) (hkind : kind ≠ .malformedHeader ∧ kind ≠ .readOnlyRegister) :
    State.Inv (raise kind s) :=
  h.of_only_status hkind rfl rfl rfl rfl

/-- The two reserved values of `STATUS` stand in no row of 60_exceptions.md R193. -/
theorem produced_of_mem_statusesOf {i : Instr} {kind : Status} (h : kind ∈ statusesOf i) :
    kind ≠ .malformedHeader ∧ kind ≠ .readOnlyRegister := by
  constructor
  · rintro rfl
    cases i <;> simp [statusesOf] at h
  · rintro rfl
    cases i <;> simp [statusesOf] at h

theorem toNat_ofNat_le (n : Nat) : (BitVec.ofNat 32 n).toNat ≤ n := by
  rw [BitVec.toNat_ofNat]
  exact Nat.mod_le ..

/-- Below the length of a sequence stored at index 0 every unit is written. -/
theorem Memory.isSome_read_writeSeq {α : Type} (m : Memory α) (vs : List α) {j : Nat} (h : j < vs.length) :
    (Memory.read (Memory.writeSeq m 0 vs) j).isSome = true := by
  rw [Memory.read_writeSeq_inside m vs h, Option.isSome_some]

theorem emit_inv {s : State} {bytes : List Byte} (h : State.Inv s) (hok : s.res.status = .ok) (hlen : bytes.length ≤ Config.outCap) :
    State.Inv (emit bytes s) where
  ibuf_wf := h.ibuf_wf
  obuf_wf := Memory.wf_writeSeq bytes _ 0 h.obuf_wf
  vbuf_wf := h.vbuf_wf
  ibuf_within := h.ibuf_within
  obuf_within := Memory.within_writeSeq bytes _ 0 (by omega) h.obuf_within
  vbuf_within := h.vbuf_within
  olen_le := le_trans (toNat_ofNat_le _) hlen
  vcnt_le := h.vcnt_le
  obuf_written := fun _ hi => Memory.isSome_read_writeSeq _ _ (lt_of_lt_of_le hi (toNat_ofNat_le _))
  vbuf_written := h.vbuf_written
  flags_reserved := h.flags_reserved
  disp_le := h.disp_le
  status_produced := h.status_produced
  error_only_status := fun hne => absurd hok hne

theorem emitv_inv {s : State} {entries : List Word} (h : State.Inv s) (hok : s.res.status = .ok)
    (hlen : entries.length ≤ Config.valCap) : State.Inv (emitv entries s) where
  ibuf_wf := h.ibuf_wf
  obuf_wf := h.obuf_wf
  vbuf_wf := Memory.wf_writeSeq entries _ 0 h.vbuf_wf
  ibuf_within := h.ibuf_within
  obuf_within := h.obuf_within
  vbuf_within := Memory.within_writeSeq entries _ 0 (by omega) h.vbuf_within
  olen_le := h.olen_le
  vcnt_le := le_trans (toNat_ofNat_le _) hlen
  obuf_written := h.obuf_written
  vbuf_written := fun _ hi => Memory.isSome_read_writeSeq _ _ (lt_of_lt_of_le hi (toNat_ofNat_le _))
  flags_reserved := h.flags_reserved
  disp_le := h.disp_le
  status_produced := h.status_produced
  error_only_status := fun hne => absurd hok hne

theorem Fills.flags_reserved {i : Instr} {r r' : Results} (h : Fills i r r') (hr : r.flags &&& 0xFC#8 = 0#8) :
    r'.flags &&& 0xFC#8 = 0#8 := by
  rcases h.flags_eq with hf | ⟨b, _, hf⟩ | ⟨b, _, hf⟩ <;> rw [hf]
  exacts [hr, setValid_reserved b hr, setTrunc_reserved b hr]

theorem Fills.disp_le {i : Instr} {r r' : Results} (h : Fills i r r') (hr : r.disp.toNat ≤ 105536) : r'.disp.toNat ≤ 105536 := by
  rcases h.disp_eq with hd | ⟨fc, addr, hd⟩ <;> rw [hd]
  exacts [hr, le_trans (toNat_ofNat_le _) (displayAddress_le fc addr)]

theorem setResults_inv {i : Instr} {f : Results → Results} {s : State} (h : State.Inv s) (hok : s.res.status = .ok)
    (hf : Fills i s.res (f s.res)) : State.Inv (setResults f s) where
  ibuf_wf := h.ibuf_wf
  obuf_wf := h.obuf_wf
  vbuf_wf := h.vbuf_wf
  ibuf_within := h.ibuf_within
  obuf_within := h.obuf_within
  vbuf_within := h.vbuf_within
  olen_le := by rw [setResults_res, hf.olen_eq]; exact h.olen_le
  vcnt_le := by rw [setResults_res, hf.vcnt_eq]; exact h.vcnt_le
  obuf_written := by rw [setResults_res, hf.olen_eq]; exact h.obuf_written
  vbuf_written := by rw [setResults_res, hf.vcnt_eq]; exact h.vbuf_written
  flags_reserved := hf.flags_reserved h.flags_reserved
  disp_le := hf.disp_le h.disp_le
  status_produced := by rw [setResults_res, hf.status_eq]; exact h.status_produced
  error_only_status := fun hne => absurd (hf.status_eq.trans hok) hne

theorem Ends.inv {i : Instr} {s t : State} (h : Ends i s t) (hs : State.Inv s) (hok : s.res.status = .ok) : State.Inv t := by
  have hout := outCap_bound
  have hval := valCap_bound
  cases h with
  | raised listed => exact raise_inv hs (produced_of_mem_statusesOf listed)
  | filled fills => exact setResults_inv hs hok fills
  | emitted inRange length_le fills => exact setResults_inv (emit_inv hs hok (by omega)) hok fills
  | entered inRange length_le fills => exact setResults_inv (emitv_inv hs hok (by omega)) hok fills

theorem exec_inv {i : Instr} {s t : State} (hs : State.Inv s) (h : exec i s = .next t) : State.Inv t :=
  (ends_of_exec h).inv (startCommand_inv hs _) rfl

/-! ## How a host access ends -/

@[simp] theorem writeRegister_res (r : Reg) (v : Nat) (s : State) : (writeRegister r v s).res = s.res := by cases r <;> rfl
@[simp] theorem writeRegister_ibuf (r : Reg) (v : Nat) (s : State) : (writeRegister r v s).ibuf = s.ibuf := by cases r <;> rfl
@[simp] theorem writeRegister_obuf (r : Reg) (v : Nat) (s : State) : (writeRegister r v s).obuf = s.obuf := by cases r <;> rfl
@[simp] theorem writeRegister_vbuf (r : Reg) (v : Nat) (s : State) : (writeRegister r v s).vbuf = s.vbuf := by cases r <;> rfl

/-- The result registers are read only (10_state.md R14). -/
theorem writeRegister_of_result {r : Reg} (hr : 0x10 ≤ regNumber r) (v : Nat) (s : State) : writeRegister r v s = s := by
  cases r with
  | opStation | opFc | opAddr | opLv | opTid | opPid | opDpres | opIlen | cmd => exact absurd hr (by decide)
  | status | rFlags | rStation | rFc | rTid | rPid | rLen | rAddr | rQty | rCrc | rOlen | rVcnt | rDisp => rfl

/-- Every next state of an access: a register or a byte of `IBUF` written, a read answered, a write ignored (10_state.md R28), a reset. -/
inductive Accessed (s : State) : State → Prop
  | wroteRegister (r : Reg) (v : Nat) : Accessed s (writeRegister r v s)
  | wroteInput {index : Nat} (b : Byte) (within : index < Config.inCap) : Accessed s { s with ibuf := Memory.write s.ibuf index b }
  | answered (v : BitVec 32) : Accessed s (answer v s)
  | ignored : Accessed s s
  | reset : Accessed s (hostReset s)

/-- The outcome of the move `m` in the state `s`: an access when the access rights allow the move, else a refusal. -/
def AccessOutcome (m : HostMove) (s : State) (o : Host.Outcome State Fault Refusal) : Prop :=
  (m.allowed = true ∧ ∃ t, o = .next t ∧ Accessed s t) ∨ (m.allowed = false ∧ ∃ r, o = .refused r)

theorem atIndex_outcome {m : HostMove} {s t : State} {space : Space} {index : Nat} (hm : m.allowed = decide (index < capacity space))
    (ht : index < capacity space → Accessed s t) : AccessOutcome m s (atIndex space index t) := by
  rcases atIndex_cases space index t with ⟨hlt, hnext⟩ | ⟨hle, hrefused⟩
  · exact .inl ⟨by simpa [hm] using hlt, t, hnext, ht hlt⟩
  · exact .inr ⟨by simpa [hm] using hle, _, hrefused⟩

theorem hostWriteRegister_outcome (number value : Nat) (s : State) :
    AccessOutcome (.writeReg number value) s (hostWriteRegister number value s) := by
  unfold hostWriteRegister
  split
  · next hnone => exact .inr ⟨by simp [HostMove.allowed, hnone], _, rfl⟩
  · next r hr =>
    split
    · next hfits => exact .inl ⟨by simpa [HostMove.allowed, hr] using hfits, _, rfl, .wroteRegister r value⟩
    · next hwide => exact .inr ⟨by simpa [HostMove.allowed, hr] using hwide, _, rfl⟩

theorem hostReadRegister_outcome (number : Nat) (s : State) : AccessOutcome (.readReg number) s (hostReadRegister number s) := by
  unfold hostReadRegister
  split
  · next hnone => exact .inr ⟨by simp [HostMove.allowed, hnone], _, rfl⟩
  · next r hr => exact .inl ⟨by simp [HostMove.allowed, hr], _, rfl, .answered _⟩

theorem hostAccess_outcome (m : HostMove) (s : State) : AccessOutcome m s (hostAccess m s) := by
  cases m with
  | writeReg number value => exact hostWriteRegister_outcome number value s
  | writeIbuf index b => exact atIndex_outcome rfl (.wroteInput b)
  | writeObuf index b => exact atIndex_outcome rfl fun _ => .ignored
  | writeVbuf index v => exact atIndex_outcome rfl fun _ => .ignored
  | readReg number => exact hostReadRegister_outcome number s
  | readIbuf index => exact atIndex_outcome rfl fun _ => .answered _
  | readObuf index => exact atIndex_outcome rfl fun _ => .answered _
  | readVbuf index => exact atIndex_outcome rfl fun _ => .answered _
  | reset => exact .inl ⟨rfl, _, rfl, .reset⟩

/-- A move that starts a command is allowed: it writes a byte to `CMD`. -/
theorem allowed_of_startedOpcode {m : HostMove} {op : Byte} (h : startedOpcode m = some op) : m.allowed = true := by
  cases m with
  | writeReg number value =>
    simp only [startedOpcode, Option.ite_none_right_eq_some] at h
    obtain ⟨⟨hcmd, hfits⟩, _⟩ := h
    simp only [HostMove.allowed, hcmd]
    exact decide_eq_true hfits
  | writeIbuf | writeObuf | writeVbuf | readReg | readIbuf | readObuf | readVbuf | reset => cases h

theorem Accessed.inv {s t : State} (h : Accessed s t) (hs : State.Inv s) : State.Inv t := by
  cases h with
  | wroteRegister r v =>
    exact hs.congr (writeRegister_res r v s) (writeRegister_ibuf r v s) (writeRegister_obuf r v s) (writeRegister_vbuf r v s)
  | wroteInput b within =>
    exact { hs with ibuf_wf := Memory.wf_write _ _ b hs.ibuf_wf, ibuf_within := Memory.within_write _ b within hs.ibuf_within }
  | answered v => exact hs.congr rfl rfl rfl rfl
  | ignored => exact hs
  | reset => exact reset_inv.congr rfl rfl rfl rfl

theorem hostAccess_inv {m : HostMove} {s t : State} (hs : State.Inv s) (h : hostAccess m s = .next t) : State.Inv t := by
  rcases hostAccess_outcome m s with ⟨_, u, hu, haccessed⟩ | ⟨_, r, hr⟩
  · rw [hu] at h
    cases h
    exact haccessed.inv hs
  · rw [hr] at h
    cases h

theorem dropMoves_inv {s : State} (rest : List HostMove) (h : State.Inv s) : State.Inv (dropMoves rest s) := h.congr rfl rfl rfl rfl

end Sys2Proof.Machine

namespace Sys2Proof.Proofs

open Sys2Proof.Machine Sys2Proof.Claims

/-- Settles O3, by the three kinds of step: the idle step changes nothing, a command ends in one of the ways of `Ends`, an access in one of
those of `Accessed`, and each of these keeps the invariant. -/
theorem stepKeepsInvariant : Obligations.StepKeepsInvariant := by
  intro s t hs hstep
  cases hmoves : s.moves with
  | nil =>
    rw [step_idle hmoves] at hstep
    cases hstep
    exact hs
  | cons m rest =>
    cases hm : startedOpcode m with
    | some op =>
      rw [step_start hmoves hm] at hstep
      exact exec_inv (dropMoves_inv rest hs) hstep
    | none =>
      rw [step_access hmoves hm] at hstep
      exact hostAccess_inv (dropMoves_inv rest hs) hstep

/-- Settles O41: no ending of a command writes an operand register or `IBUF`, and `CMD` keeps the opcode stored at the start. -/
theorem commandsLeaveOperandsAndInput : Obligations.CommandsLeaveOperandsAndInput := by
  intro i s t h
  have hends := ends_of_exec h
  have huntouched : Untouched s t := hends.untouched_of_start
  exact ⟨huntouched, hends.cmd_eq, huntouched.ibufByte_eq⟩

/-- Settles O45: the start of a command clears the flags, and from clear flags each ending leaves 0, `VALID` alone or `TRUNC` alone. -/
theorem flagsAreSetByTheirOperationOnly : Obligations.FlagsAreSetByTheirOperationOnly := by
  intro i s t h
  rcases (ends_of_exec h).flags_of_zero rfl with hf | ⟨hi, hf⟩ | ⟨hi, hf⟩ <;> rw [hf]
  · exact ⟨nofun, nofun, getLsbD_of_lt_four (by decide)⟩
  · exact ⟨fun _ => hi, nofun, getLsbD_of_lt_four (by decide)⟩
  · exact ⟨nofun, fun _ => hi, getLsbD_of_lt_four (by decide)⟩

/-- Settles O49: a move that starts a command is allowed and its command always ends; any other ends as `hostAccess_outcome` says. -/
theorem allowedMovesSucceedOthersAreRefused : Obligations.AllowedMovesSucceedOthersAreRefused := by
  intro s m rest hmoves
  cases hm : startedOpcode m with
  | some op =>
    have hallowed := allowed_of_startedOpcode hm
    obtain ⟨t, ht, _⟩ := exec_ends (decodeOpcode s.op.fc op) (dropMoves rest s)
    exact ⟨fun _ => ⟨t, (step_start hmoves hm).trans ht⟩, fun hnot => absurd (hallowed.symm.trans hnot) (by decide)⟩
  | none =>
    rw [step_access hmoves hm]
    rcases hostAccess_outcome m (dropMoves rest s) with ⟨hallowed, t, ht, _⟩ | ⟨hnot, r, hr⟩
    · exact ⟨fun _ => ⟨t, ht⟩, fun hnot => absurd (hallowed.symm.trans hnot) (by decide)⟩
    · exact ⟨fun hallowed => absurd (hallowed.symm.trans hnot) (by decide), fun _ => ⟨r, hr⟩⟩

/-- Settles O53: a write to a result register leaves `writeRegister` as it was, one to `OBUF` or `VBUF` is an access that does nothing. -/
theorem readOnlyWritesAreIgnored : Obligations.ReadOnlyWritesAreIgnored := by
  rintro s rest m hmoves (⟨r, v, hr, hv, rfl⟩ | ⟨i, b, hi, rfl⟩ | ⟨i, v, hi, rfl⟩)
  · have hcmd : r ≠ .cmd := by
      rintro rfl
      exact absurd hr (by decide)
    rw [step_writeReg hmoves hcmd hv, writeRegister_of_result hr]
    rfl
  · exact (step_access hmoves rfl).trans (if_pos hi)
  · exact (step_access hmoves rfl).trans (if_pos hi)

/-- Settles O1: each register of the reset state is a zero of its own width, zero extended. -/
theorem resetRegistersReadZero : Obligations.ResetRegistersReadZero :=
  ⟨fun r => by cases r <;> rfl, rfl, rfl, rfl, rfl⟩

/-- Settles O2. -/
theorem resetMeetsInvariant : Obligations.ResetMeetsInvariant := reset_inv

/-- Settles O8: the one byte decodes by `decodeOpcode`, which is what the step runs. -/
theorem stepRunsTheDecodedCommand : Obligations.StepRunsTheDecodedCommand := by
  intro s op rest i hmoves hdecode
  have hi : decodeOpcode s.op.fc op = i := by
    simp only [decode, Except.ok.injEq, Prod.mk.injEq] at hdecode
    exact hdecode.1
  rw [step_start hmoves (startedOpcode_writeCmd op), hi]
  rfl

end Sys2Proof.Proofs
end

section
/-! PROOFS. The memory family: the byte-order helpers in numbers (20_memory.md R41), and what a host write and a host read change and leave
unchanged (20_memory.md R48). -/

namespace Sys2Proof.Machine

open Sys2Proof.Claims

/-! ## Byte order -/

theorem hi8_toNat (v : Word) : (hi8 v).toNat = v.toNat / 256 := by
  have := v.isLt
  rw [hi8, BitVec.extractLsb'_toNat, Nat.shiftRight_eq_div_pow]
  omega

theorem lo8_toNat (v : Word) : (lo8 v).toNat = v.toNat % 256 := by
  rw [lo8, BitVec.extractLsb'_toNat, Nat.shiftRight_zero]

@[simp] theorem u16be_hi8_lo8 (v : Word) : u16be (hi8 v) (lo8 v) = v := by
  apply BitVec.eq_of_toNat_eq
  rw [u16be_toNat, hi8_toNat, lo8_toNat, Nat.div_add_mod']

/-! ## Registers: read after write -/

@[simp] theorem writeRegister_moves (r : Reg) (v : Nat) (s : State) : (writeRegister r v s).moves = s.moves := by cases r <;> rfl
@[simp] theorem writeRegister_answers (r : Reg) (v : Nat) (s : State) : (writeRegister r v s).answers = s.answers := by cases r <;> rfl
@[simp] theorem writeRegister_resetCount (r : Reg) (v : Nat) (s : State) : (writeRegister r v s).resetCount = s.resetCount := by
  cases r <;> rfl
@[simp] theorem writeRegister_commandCount (r : Reg) (v : Nat) (s : State) : (writeRegister r v s).commandCount = s.commandCount := by
  cases r <;> rfl

@[simp] theorem readRegister_dropMoves (rest : List HostMove) (s : State) (r : Reg) :
    readRegister (dropMoves rest s) r = readRegister s r := by cases r <;> rfl

/-- The operand registers and `CMD` hold what was written to them. -/
theorem readRegister_writeRegister_same {r : Reg} {v : Nat} (hr : regNumber r < 0x10) (hv : v < 2 ^ regWidth r) (s : State) :
    readRegister (writeRegister r v s) r = BitVec.ofNat 32 v := by
  cases r with
  | opStation | opFc | opAddr | opLv | opTid | opPid | opDpres | opIlen | cmd =>
    exact BitVec.setWidth_ofNat_of_le_of_lt (by decide) hv
  | status | rFlags | rStation | rFc | rTid | rPid | rLen | rAddr | rQty | rCrc | rOlen | rVcnt | rDisp => exact absurd hr (by decide)

/-- No two registers share storage: an update of one field leaves every other as it was. -/
theorem readRegister_writeRegister_ne {r r' : Reg} (h : r' ≠ r) (v : Nat) (s : State) :
    readRegister (writeRegister r v s) r' = readRegister s r' := by
  cases r <;> cases r'
  case opStation.opStation | opFc.opFc | opAddr.opAddr | opLv.opLv | opTid.opTid | opPid.opPid | opDpres.opDpres | opIlen.opIlen | cmd.cmd =>
    exact absurd rfl h
  all_goals rfl

/-! ## `IBUF`: read after write -/

theorem ibufByte_write_same {s t : State} {i : Nat} {b : Byte} (h : t.ibuf = Memory.write s.ibuf i b) : ibufByte t i = b := by
  rw [ibufByte, h, Memory.read_write_same, Option.getD_some]

theorem ibufByte_write_ne {s t : State} {i a : Nat} {b : Byte} (h : t.ibuf = Memory.write s.ibuf i b)
    (hcount : t.resetCount = s.resetCount) (ha : a ≠ i) : ibufByte t a = ibufByte s a := by
  rw [ibufByte, ibufByte, h, hcount, Memory.read_write_ne _ _ ha]

theorem step_writeIbuf {s : State} {i : Nat} {b : Byte} {rest : List HostMove} (h : s.moves = .writeIbuf i b :: rest)
    (hi : i < Config.inCap) : step s = .next { s with moves := rest, ibuf := Memory.write s.ibuf i b } :=
  (step_access h rfl).trans (if_pos hi)

/-! ## Reads -/

theorem step_readReg {s : State} {r : Reg} {rest : List HostMove} (h : s.moves = .readReg (regNumber r) :: rest) :
    step s = .next (answer (readRegister s r) (dropMoves rest s)) := by
  rw [step_access h rfl]
  simp [hostAccess, hostReadRegister]

theorem step_readIbuf {s : State} {i : Nat} {rest : List HostMove} (h : s.moves = .readIbuf i :: rest) (hi : i < Config.inCap) :
    step s = .next (answer ((ibufByte s i).setWidth 32) (dropMoves rest s)) :=
  (step_access h rfl).trans (if_pos hi)

theorem step_readObuf {s : State} {i : Nat} {rest : List HostMove} (h : s.moves = .readObuf i :: rest) (hi : i < Config.outCap) :
    step s = .next (answer ((obufByte s i).setWidth 32) (dropMoves rest s)) :=
  (step_access h rfl).trans (if_pos hi)

theorem step_readVbuf {s : State} {i : Nat} {rest : List HostMove} (h : s.moves = .readVbuf i :: rest) (hi : i < Config.valCap) :
    step s = .next (answer ((vbufEntry s i).setWidth 32) (dropMoves rest s)) :=
  (step_access h rfl).trans (if_pos hi)

theorem sameBlock_answer_dropMoves (v : BitVec 32) (rest : List HostMove) (s : State) : SameBlock s (answer v (dropMoves rest s)) :=
  ⟨rfl, rfl, rfl, rfl, rfl, rfl, rfl, rfl⟩

end Sys2Proof.Machine

namespace Sys2Proof.Proofs

open Sys2Proof.Machine Sys2Proof.Claims

/-- Settles O50: the step is `writeRegister` of a register other than `CMD`, which reads back there and nowhere else. -/
theorem operandWriteChangesOneRegister : Obligations.OperandWriteChangesOneRegister := by
  intro s r v rest hr hv hmoves
  have hcmd : r ≠ .cmd := by
    rintro rfl
    exact absurd hr (by decide)
  refine ⟨_, step_writeReg hmoves hcmd hv, readRegister_writeRegister_same (hr.trans (by decide)) hv _, fun r' hne => ?_, ?_⟩
  · rw [readRegister_writeRegister_ne hne, readRegister_dropMoves]
  · simp

/-- Settles O51: the step is one `Memory.write` of `IBUF`, so the laws of the buffers say what is read there and elsewhere. -/
theorem inputWriteChangesOneByte : Obligations.InputWriteChangesOneByte := by
  intro s i b rest hi hmoves
  exact ⟨_, step_writeIbuf hmoves hi, ibufByte_write_same rfl, fun _ ha => ibufByte_write_ne rfl rfl ha,
    rfl, rfl, rfl, rfl, rfl, rfl, rfl, rfl, rfl⟩

/-- Settles O52: each of the four kinds of read ends in `answer` of the value there, which writes the list of answers alone. -/
theorem hostReadsChangeNothing : Obligations.HostReadsChangeNothing := by
  intro s rest m v hmoves hread
  have hstep : step s = .next (answer v (dropMoves rest s)) := by
    rcases hread with ⟨r, rfl, rfl⟩ | ⟨i, hi, rfl, rfl⟩ | ⟨i, hi, rfl, rfl⟩ | ⟨i, hi, rfl, rfl⟩
    · exact step_readReg hmoves
    · exact step_readIbuf hmoves hi
    · exact step_readObuf hmoves hi
    · exact step_readVbuf hmoves hi
  exact ⟨_, hstep, sameBlock_answer_dropMoves v rest s, rfl, rfl⟩

/-- Settles O48. -/
theorem bigEndianHelpersSplitAndJoin : Obligations.BigEndianHelpersSplitAndJoin :=
  fun v => ⟨rfl, hi8_toNat v, lo8_toNat v, u16be_hi8_lo8 v⟩

end Sys2Proof.Proofs
end

section
/-! PROOFS. The encoding family: the decoder as the inverse of the encoder (30_encoding.md R60, R61, R76), what a command depends on (R62),
and the run of a `COPY` line (R84, R85). -/

namespace Sys2Proof

/-! ## The rows of the opcodes that are no operations, in numbers -/

/-- A row that fixes the upper bits of the byte: masked, a byte is the row's match when its quotient by the free bits is. -/
theorem inRow_iff_div {row : Byte × Byte} {k m : Nat} (hmask : row.1 = BitVec.allOnes 8 <<< k) (hmatch : row.2.toNat = m * 2 ^ k)
    (op : Byte) : inRow row op = true ↔ op.toNat / 2 ^ k = m := by
  have hop := op.isLt
  have hle : op.toNat / 2 ^ k * 2 ^ k ≤ op.toNat := Nat.div_mul_le_self ..
  rw [inRow, beq_iff_eq, hmask, ← BitVec.shiftLeft_ushiftRight, ← BitVec.toNat_inj, hmatch, BitVec.toNat_shiftLeft,
    BitVec.toNat_ushiftRight, Nat.shiftLeft_eq, Nat.shiftRight_eq_div_pow, Nat.mod_eq_of_lt (by omega)]
  exact Nat.mul_left_inj (Nat.two_pow_pos k).ne'

theorem inRow_0A0B (op : Byte) : inRow (0xFE#8, 0x0A#8) op = true ↔ op.toNat / 2 = 5 := inRow_iff_div (k := 1) rfl rfl op
theorem inRow_0C0F (op : Byte) : inRow (0xFC#8, 0x0C#8) op = true ↔ op.toNat / 4 = 3 := inRow_iff_div (k := 2) rfl rfl op
theorem inRow_101F (op : Byte) : inRow (0xF0#8, 0x10#8) op = true ↔ op.toNat / 16 = 1 := inRow_iff_div (k := 4) rfl rfl op
theorem inRow_203F (op : Byte) : inRow (0xE0#8, 0x20#8) op = true ↔ op.toNat / 32 = 1 := inRow_iff_div (k := 5) rfl rfl op
theorem inRow_407F (op : Byte) : inRow (0xC0#8, 0x40#8) op = true ↔ op.toNat / 64 = 1 := inRow_iff_div (k := 6) rfl rfl op
theorem inRow_80FF (op : Byte) : inRow (0x80#8, 0x80#8) op = true ↔ op.toNat / 128 = 1 := inRow_iff_div (k := 7) rfl rfl op

/-- From 0x0A upward a byte is no operation, and its row is that of its leading bits. -/
theorem decodeOpcode_of_ten_le {op : Byte} (h : 10 ≤ op.toNat) (fc : Byte) :
    decodeOpcode fc op =
      if op.toNat / 2 = 5 then .illegalOp0A0B op
      else if op.toNat / 4 = 3 then .illegalOp0C0F op
      else if op.toNat / 16 = 1 then .illegalOp101F op
      else if op.toNat / 32 = 1 then .illegalOp203F op
      else if op.toNat / 64 = 1 then .illegalOp407F op
      else .illegalOp80FF op := by
  have hne (c : Byte) (hc : c.toNat < 10) : op ≠ c := by
    rintro rfl
    omega
  simp only [decodeOpcode, inRow_0A0B, inRow_0C0F, inRow_101F, inRow_203F, inRow_407F]
  iterate 10 rw [if_neg (hne _ (by decide))]

/-! ## The decoder inverts the encoder -/

/-- The byte `op`, written while `OP_FC` holds `fc`, encodes the command `i`. -/
structure Encodes (fc op : Byte) (i : Instr) : Prop where
  wellFormed : i.wellFormed = true
  selected : selectedBy fc i = true
  opcode_eq : opcodeOf i = op

/-- `OP_FC` selects the form of any other function code when it holds none of the eight supported codes. -/
theorem not_supported_iff (fc : Byte) : (!supportedFunctionCodes.contains fc) = true ↔
    fc ≠ 0x01#8 ∧ fc ≠ 0x02#8 ∧ fc ≠ 0x03#8 ∧ fc ≠ 0x04#8 ∧ fc ≠ 0x05#8 ∧ fc ≠ 0x06#8 ∧ fc ≠ 0x0F#8 ∧ fc ≠ 0x10#8 := by
  simp [supportedFunctionCodes]

theorem decodeRtuForm_of_not_supported {fc : Byte} (h : (!supportedFunctionCodes.contains fc) = true) :
    decodeRtuForm fc = .rtuBuildUnsupported := by
  simp [decodeRtuForm, (not_supported_iff fc).1 h]

theorem decodeTcpForm_of_not_supported {fc : Byte} (h : (!supportedFunctionCodes.contains fc) = true) :
    decodeTcpForm fc = .tcpBuildReqUnsupported := by
  simp [decodeTcpForm, (not_supported_iff fc).1 h]

theorem encodes_decodeRtuForm (fc : Byte) : Encodes fc opcodeRtuBuild (decodeRtuForm fc) := by
  unfold decodeRtuForm
  split_ifs with h1 h2 h3 h4 h5 h6 hF h10
  case neg => exact ⟨rfl, (not_supported_iff fc).2 ⟨h1, h2, h3, h4, h5, h6, hF, h10⟩, rfl⟩
  all_goals
    subst fc
    exact ⟨rfl, rfl, rfl⟩

theorem encodes_decodeTcpForm (fc : Byte) : Encodes fc opcodeTcpBuildReq (decodeTcpForm fc) := by
  unfold decodeTcpForm
  split_ifs with h1 h2 h3 h4 h5 h6 hF h10
  case neg => exact ⟨rfl, (not_supported_iff fc).2 ⟨h1, h2, h3, h4, h5, h6, hF, h10⟩, rfl⟩
  all_goals
    subst fc
    exact ⟨rfl, rfl, rfl⟩

theorem encodes_decodeOpcode_of_lt_ten {op : Byte} (h : op.toNat < 10) (fc : Byte) : Encodes fc op (decodeOpcode fc op) := by
  obtain ⟨n, hn, rfl⟩ : ∃ n < 10, op = BitVec.ofNat 8 n := ⟨op.toNat, h, by simp⟩
  -- The opcodes 3 and 5 are those of the two packers of requests: `OP_FC` chooses the form.
  match n, hn with
  | 3, _ => exact encodes_decodeRtuForm fc
  | 5, _ => exact encodes_decodeTcpForm fc
  | 0, _ | 1, _ | 2, _ | 4, _ | 6, _ | 7, _ | 8, _ | 9, _ => exact ⟨rfl, rfl, rfl⟩
  | n + 10, hn => omega

theorem encodes_decodeOpcode_of_ten_le {op : Byte} (h : 10 ≤ op.toNat) (fc : Byte) : Encodes fc op (decodeOpcode fc op) := by
  have hop := op.isLt
  rw [decodeOpcode_of_ten_le h]
  split_ifs with h0A h0C h10 h20 h40
  · exact ⟨(inRow_0A0B op).2 h0A, rfl, rfl⟩
  · exact ⟨(inRow_0C0F op).2 h0C, rfl, rfl⟩
  · exact ⟨(inRow_101F op).2 h10, rfl, rfl⟩
  · exact ⟨(inRow_203F op).2 h20, rfl, rfl⟩
  · exact ⟨(inRow_407F op).2 h40, rfl, rfl⟩
  · exact ⟨(inRow_80FF op).2 (by omega), rfl, rfl⟩

theorem encodes_decodeOpcode (fc op : Byte) : Encodes fc op (decodeOpcode fc op) :=
  (Nat.lt_or_ge op.toNat 10).elim (encodes_decodeOpcode_of_lt_ten · fc) (encodes_decodeOpcode_of_ten_le · fc)

theorem Encodes.decodeOpcode_eq {fc op : Byte} {i : Instr} (h : Encodes fc op i) : decodeOpcode fc op = i := by
  obtain ⟨hwf, hselected, rfl⟩ := h
  cases i with
  | crc16 | crcValidate | rtuParse | tcpBuildResp | tcpParse | getBits | getRegs | illegalOp00 => rfl
  | rtuBuildFc01 | rtuBuildFc02 | rtuBuildFc03 | rtuBuildFc04 | rtuBuildFc05 | rtuBuildFc06 | rtuBuildFc0F | rtuBuildFc10 =>
    exact congrArg decodeRtuForm (beq_iff_eq.1 hselected)
  | rtuBuildUnsupported => exact decodeRtuForm_of_not_supported hselected
  | tcpBuildReqFc01 | tcpBuildReqFc02 | tcpBuildReqFc03 | tcpBuildReqFc04 | tcpBuildReqFc05 | tcpBuildReqFc06 | tcpBuildReqFc0F
  | tcpBuildReqFc10 =>
    exact congrArg decodeTcpForm (beq_iff_eq.1 hselected)
  | tcpBuildReqUnsupported => exact decodeTcpForm_of_not_supported hselected
  | illegalOp0A0B op =>
    have h := (inRow_0A0B op).1 hwf
    rw [opcodeOf, decodeOpcode_of_ten_le (by omega), if_pos h]
  | illegalOp0C0F op =>
    have h := (inRow_0C0F op).1 hwf
    rw [opcodeOf, decodeOpcode_of_ten_le (by omega), if_neg (by omega), if_pos h]
  | illegalOp101F op =>
    have h := (inRow_101F op).1 hwf
    rw [opcodeOf, decodeOpcode_of_ten_le (by omega), if_neg (by omega), if_neg (by omega), if_pos h]
  | illegalOp203F op =>
    have h := (inRow_203F op).1 hwf
    rw [opcodeOf, decodeOpcode_of_ten_le (by omega), if_neg (by omega), if_neg (by omega), if_neg (by omega), if_pos h]
  | illegalOp407F op =>
    have h := (inRow_407F op).1 hwf
    rw [opcodeOf, decodeOpcode_of_ten_le (by omega), if_neg (by omega), if_neg (by omega), if_neg (by omega), if_neg (by omega), if_pos h]
  | illegalOp80FF op =>
    have h := (inRow_80FF op).1 hwf
    rw [opcodeOf, decodeOpcode_of_ten_le (by omega), if_neg (by omega), if_neg (by omega), if_neg (by omega), if_neg (by omega),
      if_neg (by omega)]

/-- The decoder answers the one command that the byte encodes (30_encoding.md R61). -/
theorem decodeOpcode_eq_iff {fc op : Byte} {i : Instr} : decodeOpcode fc op = i ↔ Encodes fc op i :=
  ⟨fun h => h ▸ encodes_decodeOpcode fc op, Encodes.decodeOpcode_eq⟩

/-- `OP_FC` selects among the rows of the two packers of requests alone. -/
theorem selectedBy_of_not_hasForms {i : Instr} (h : hasForms (opcodeOf i) = false) (fc : Byte) : selectedBy fc i = true := by
  cases i with
  | crc16 | crcValidate | rtuParse | tcpBuildResp | tcpParse | getBits | getRegs | illegalOp00 | illegalOp0A0B | illegalOp0C0F
  | illegalOp101F | illegalOp203F | illegalOp407F | illegalOp80FF => rfl
  | rtuBuildFc01 | rtuBuildFc02 | rtuBuildFc03 | rtuBuildFc04 | rtuBuildFc05 | rtuBuildFc06 | rtuBuildFc0F | rtuBuildFc10
  | rtuBuildUnsupported | tcpBuildReqFc01 | tcpBuildReqFc02 | tcpBuildReqFc03 | tcpBuildReqFc04 | tcpBuildReqFc05 | tcpBuildReqFc06
  | tcpBuildReqFc0F | tcpBuildReqFc10 | tcpBuildReqUnsupported => exact absurd h (by decide)

theorem Encodes.of_not_hasForms {fc op : Byte} {i : Instr} (h : Encodes fc op i) (hforms : hasForms op = false) (fc' : Byte) :
    Encodes fc' op i :=
  ⟨h.wellFormed, selectedBy_of_not_hasForms (h.opcode_eq ▸ hforms) fc', h.opcode_eq⟩

theorem encodes_of_decodeTableWord {nbits w : Nat} {i : Instr} (h : decodeTableWord nbits w = some i) :
    Encodes (tableWordFc nbits w) (tableWordOpcode nbits w) i := by
  simp only [decodeTableWord, decode, Option.ite_none_left_eq_some, Option.some.injEq] at h
  exact decodeOpcode_eq_iff.1 h.2

end Sys2Proof

namespace Sys2Proof.Machine

open Sys2Proof.Claims

/-! ## The command placed -/

/-- The command placed runs with the `OP_FC` it was placed with, where that chooses its row. -/
theorem encodes_placeCommand {fc op : Byte} {i : Instr} (h : Encodes fc op i) (s : State) :
    Encodes (placeCommand op fc s).op.fc op i := by
  cases hforms : hasForms op with
  | true => simpa [placeCommand, hforms] using h
  | false => exact h.of_not_hasForms hforms _

theorem step_placeCommand {fc op : Byte} {i : Instr} (h : Encodes fc op i) (s : State) :
    step (placeCommand op fc s) = exec i { s with op := if hasForms op then { s.op with fc := fc } else s.op } := by
  rw [step_start rfl (startedOpcode_writeCmd op), decodeOpcode_eq_iff.2 (encodes_placeCommand h s)]
  rfl

/-! ## Opcodes that are no operations -/

theorem exec_of_not_operation {i : Instr} (h : isOperation i = false) (s : State) : exec i s = illegalOpcode (opcodeOf i) s := by
  cases i with
  | illegalOp00 | illegalOp0A0B | illegalOp0C0F | illegalOp101F | illegalOp203F | illegalOp407F | illegalOp80FF => rfl
  | crc16 | crcValidate | rtuBuildFc01 | rtuBuildFc02 | rtuBuildFc03 | rtuBuildFc04 | rtuBuildFc05 | rtuBuildFc06 | rtuBuildFc0F
  | rtuBuildFc10 | rtuBuildUnsupported | rtuParse | tcpBuildReqFc01 | tcpBuildReqFc02 | tcpBuildReqFc03 | tcpBuildReqFc04
  | tcpBuildReqFc05 | tcpBuildReqFc06 | tcpBuildReqFc0F | tcpBuildReqFc10 | tcpBuildReqUnsupported | tcpBuildResp | tcpParse | getBits
  | getRegs => cases h

/-- A command whose whole effect is an error entry fails with it and touches nothing else (60_exceptions.md R196). -/
theorem failsWith_of_exec_raise {i : Instr} {s : State} {kind : Status}
    (h : exec i s = .next (raise kind (startCommand (opcodeOf i) s))) : FailsWith i s kind :=
  ⟨_, h, rfl, rfl, ⟨rfl, rfl, rfl, rfl, rfl⟩, rfl, rfl⟩

/-! ## What the host finds after a command -/

/-- Two states show the host the same results, output bytes and entries. -/
def SameAnswer (t₁ t₂ : State) : Prop := t₁.res = t₂.res ∧ outputBytes t₁ = outputBytes t₂ ∧ outputEntries t₁ = outputEntries t₂

/-- The output, as far as `R_OLEN` reaches, is what was last stored from index 0 on. -/
theorem outputBytes_of_writeSeq {m : Memory Byte} {bytes : List Byte} {t : State} (ho : t.obuf = Memory.writeSeq m 0 bytes)
    (hn : t.res.olen.toNat ≤ bytes.length) : outputBytes t = bytes.take t.res.olen.toNat := by
  apply List.ext_getElem
  · simp [hn]
  · intro i h₁ h₂
    have hi : i < t.res.olen.toNat := by simpa using h₁
    simp [outputBytes, obufByte, hi, ho, Memory.read_writeSeq_inside m bytes (hi.trans_le hn)]

theorem outputEntries_of_writeSeq {m : Memory Word} {entries : List Word} {t : State} (hv : t.vbuf = Memory.writeSeq m 0 entries)
    (hn : t.res.vcnt.toNat ≤ entries.length) : outputEntries t = entries.take t.res.vcnt.toNat := by
  apply List.ext_getElem
  · simp [hn]
  · intro i h₁ h₂
    have hi : i < t.res.vcnt.toNat := by simpa using h₁
    simp [outputEntries, vbufEntry, hi, hv, Memory.read_writeSeq_inside m entries (hi.trans_le hn)]

/-- Two states show the same when their results are equal and both have stored the units that the lengths count. -/
theorem SameAnswer.of_stored {t₁ t₂ : State} {m₁ m₂ : Memory Byte} {n₁ n₂ : Memory Word} (bytes : List Byte) (entries : List Word)
    (hres : t₁.res = t₂.res) (ho₁ : t₁.obuf = Memory.writeSeq m₁ 0 bytes) (ho₂ : t₂.obuf = Memory.writeSeq m₂ 0 bytes)
    (hv₁ : t₁.vbuf = Memory.writeSeq n₁ 0 entries) (hv₂ : t₂.vbuf = Memory.writeSeq n₂ 0 entries)
    (hbytes : t₂.res.olen.toNat ≤ bytes.length) (hentries : t₂.res.vcnt.toNat ≤ entries.length) : SameAnswer t₁ t₂ := by
  refine ⟨hres, ?_, ?_⟩
  · rw [outputBytes_of_writeSeq ho₁ (hres ▸ hbytes), outputBytes_of_writeSeq ho₂ hbytes, hres]
  · rw [outputEntries_of_writeSeq hv₁ (hres ▸ hentries), outputEntries_of_writeSeq hv₂ hentries, hres]

/-- A write of results that leaves the two lengths to `emit` and `emitv`. -/
def KeepsLengths (f : Results → Results) : Prop := ∀ r, (f r).olen = r.olen ∧ (f r).vcnt = r.vcnt

theorem outputBytes_setResults {f : Results → Results} (hf : KeepsLengths f) (t : State) : outputBytes (setResults f t) = outputBytes t := by
  have hbyte : obufByte (setResults f t) = obufByte t := by
    funext i
    simp [obufByte, (hf t.res).1]
  simp [outputBytes, (hf t.res).1, hbyte]

theorem outputEntries_setResults {f : Results → Results} (hf : KeepsLengths f) (t : State) :
    outputEntries (setResults f t) = outputEntries t := by
  have hentry : vbufEntry (setResults f t) = vbufEntry t := by
    funext i
    simp [vbufEntry, (hf t.res).2]
  simp [outputEntries, (hf t.res).2, hentry]

theorem SameAnswer.setResults {t₁ t₂ : State} {f : Results → Results} (h : SameAnswer t₁ t₂) (hf : KeepsLengths f) :
    SameAnswer (setResults f t₁) (setResults f t₂) := by
  obtain ⟨hres, hbytes, hentries⟩ := h
  refine ⟨congrArg f hres, ?_, ?_⟩
  · rw [outputBytes_setResults hf, outputBytes_setResults hf, hbytes]
  · rw [outputEntries_setResults hf, outputEntries_setResults hf, hentries]

/-! ## What an operation depends on -/

section

variable {op : Byte} {s₁ s₂ : State}

theorem sameAnswer_startCommand : SameAnswer (startCommand op s₁) (startCommand op s₂) :=
  .of_stored [] [] rfl rfl rfl rfl rfl le_rfl le_rfl

theorem sameAnswer_raise (kind : Status) : SameAnswer (raise kind (startCommand op s₁)) (raise kind (startCommand op s₂)) :=
  .of_stored [] [] rfl rfl rfl rfl rfl le_rfl le_rfl

theorem sameAnswer_emit (bytes : List Byte) : SameAnswer (emit bytes (startCommand op s₁)) (emit bytes (startCommand op s₂)) :=
  .of_stored bytes [] rfl rfl rfl rfl rfl (toNat_ofNat_le _) le_rfl

theorem sameAnswer_emitv (entries : List Word) : SameAnswer (emitv entries (startCommand op s₁)) (emitv entries (startCommand op s₂)) :=
  .of_stored [] entries rfl rfl rfl rfl rfl le_rfl (toNat_ofNat_le _)

/-- Two bodies end alike: in states that show the same, or with the same error. -/
inductive SameEnd : Except Status State → Except Status State → Prop
  | ok {t₁ t₂ : State} (same : SameAnswer t₁ t₂) : SameEnd (.ok t₁) (.ok t₂)
  | error (kind : Status) : SameEnd (.error kind) (.error kind)

/-- Two outcomes are next states that show the same. -/
def SameOutcome (o₁ o₂ : Host.Outcome State Fault Refusal) : Prop := ∃ t₁ t₂, o₁ = .next t₁ ∧ o₂ = .next t₂ ∧ SameAnswer t₁ t₂

theorem illegalOpcode_sameOutcome : SameOutcome (illegalOpcode op s₁) (illegalOpcode op s₂) :=
  ⟨_, _, rfl, rfl, sameAnswer_raise _⟩

theorem operation_sameOutcome {body : State → Except Status State} (hilen : s₁.op.ilen = s₂.op.ilen)
    (hbody : SameEnd (body (startCommand op s₁)) (body (startCommand op s₂))) :
    SameOutcome (operation op body s₁) (operation op body s₂) := by
  refine ⟨_, _, rfl, rfl, ?_⟩
  simp only [runOperation, hilen]
  generalize body (startCommand op s₁) = e₁ at hbody ⊢
  generalize body (startCommand op s₂) = e₂ at hbody ⊢
  split_ifs
  · cases hbody with
    | ok same => exact same
    | error kind => exact sameAnswer_raise kind
  · exact sameAnswer_raise .range

theorem crc16Body_sameEnd (hin : inputBytes s₁ = inputBytes s₂) :
    SameEnd (crc16Body (startCommand op s₁)) (crc16Body (startCommand op s₂)) := by
  simp only [crc16Body, inputBytes_startCommand, hin]
  exact .ok (sameAnswer_startCommand.setResults fun _ => ⟨rfl, rfl⟩)

theorem crcValidateBody_sameEnd (hin : inputBytes s₁ = inputBytes s₂) :
    SameEnd (crcValidateBody (startCommand op s₁)) (crcValidateBody (startCommand op s₂)) := by
  simp only [crcValidateBody, inputBytes_startCommand, hin]
  cases crcOk (inputBytes s₂) with
  | none => exact .error _
  | some valid => exact .ok (sameAnswer_startCommand.setResults fun _ => ⟨rfl, rfl⟩)

theorem rtuParseBody_sameEnd (hin : inputBytes s₁ = inputBytes s₂) :
    SameEnd (rtuParseBody (startCommand op s₁)) (rtuParseBody (startCommand op s₂)) := by
  simp only [rtuParseBody, inputBytes_startCommand, hin]
  split
  · split_ifs
    · exact .ok ((sameAnswer_emit _).setResults fun _ => ⟨rfl, rfl⟩)
    · exact .error _
  · exact .error _

theorem tcpParseBody_sameEnd (hin : inputBytes s₁ = inputBytes s₂) :
    SameEnd (tcpParseBody (startCommand op s₁)) (tcpParseBody (startCommand op s₂)) := by
  simp only [tcpParseBody, inputBytes_startCommand, hin]
  split
  · exact .ok (sameAnswer_startCommand.setResults fun _ => ⟨rfl, rfl⟩)
  · exact .error _

theorem tcpBuildRespBody_sameEnd (hop : agreeOnRead .tcpBuildResp s₁.op s₂.op) (hin : inputBytes s₁ = inputBytes s₂) :
    SameEnd (tcpBuildRespBody (startCommand op s₁)) (tcpBuildRespBody (startCommand op s₂)) := by
  obtain ⟨hstation, hfc, htid, hpid, hilen⟩ := hop
  simp only [tcpBuildRespBody, responseLength, startCommand_op, inputBytes_startCommand, hstation, hfc, htid, hpid, hilen, hin]
  exact .ok ((sameAnswer_emit _).setResults fun _ => ⟨rfl, rfl⟩)

theorem getBitsBody_sameEnd (hfc : s₁.op.fc = s₂.op.fc) (hin : inputBytes s₁ = inputBytes s₂) :
    SameEnd (getBitsBody (startCommand op s₁)) (getBitsBody (startCommand op s₂)) := by
  rw [getBitsBody, getBitsBody, startCommand_op, startCommand_op, inputBytes_startCommand, inputBytes_startCommand, hfc, hin]
  split_ifs
  · exact .ok ((sameAnswer_emitv _).setResults fun _ => ⟨rfl, rfl⟩)
  · exact .error _

theorem getRegsBody_sameEnd (hfc : s₁.op.fc = s₂.op.fc) (hilen : s₁.op.ilen = s₂.op.ilen) (hin : inputBytes s₁ = inputBytes s₂) :
    SameEnd (getRegsBody (startCommand op s₁)) (getRegsBody (startCommand op s₂)) := by
  rw [getRegsBody, getRegsBody, startCommand_op, startCommand_op, inputBytes_startCommand, inputBytes_startCommand, hfc, hilen, hin]
  split_ifs
  · exact .error _
  · exact .ok ((sameAnswer_emitv _).setResults fun _ => ⟨rfl, rfl⟩)
  · exact .error _

/-! ### The two packers of requests -/

theorem SameEnd.map {α : Type} {x₁ x₂ : Except Status α} {g₁ g₂ : α → State} (hx : x₁ = x₂) (hg : ∀ a, SameAnswer (g₁ a) (g₂ a)) :
    SameEnd (x₁.map g₁) (x₂.map g₂) := by
  subst hx
  cases x₁ with
  | ok a => exact .ok (hg a)
  | error kind => exact .error kind

/-- The envelope of `RTU_BUILD` reads the station and the function code; the body reads the rest. -/
theorem rtuBuild_sameOutcome {body : State → Except Status (List Byte)} (hop : agreeOnRead .rtuBuildUnsupported s₁.op s₂.op)
    (hbody : body (startCommand opcodeRtuBuild s₁) = body (startCommand opcodeRtuBuild s₂)) :
    SameOutcome (rtuBuild body s₁) (rtuBuild body s₂) := by
  obtain ⟨hstation, hfc, -, -, -, hilen⟩ := hop
  refine operation_sameOutcome hilen (.map hbody fun bytes => ?_)
  simp only [rtuEnvelope, rtuHead, startCommand_op, hstation, hfc]
  exact (sameAnswer_emit _).setResults fun _ => ⟨rfl, rfl⟩

/-- The envelope of `TCP_BUILD_REQ` reads the station, the function code, the address and the transaction id; the PDU reads the rest. -/
theorem tcpBuildReq_sameOutcome {pdu : State → Except Status (List Byte)} (hop : agreeOnRead .tcpBuildReqUnsupported s₁.op s₂.op)
    (hpdu : pdu (startCommand opcodeTcpBuildReq s₁) = pdu (startCommand opcodeTcpBuildReq s₂)) :
    SameOutcome (tcpBuildReq pdu s₁) (tcpBuildReq pdu s₂) := by
  obtain ⟨hstation, hfc, haddr, -, htid, -, hilen⟩ := hop
  refine operation_sameOutcome hilen (.map hpdu fun bytes => ?_)
  simp only [tcpRequestEnvelope, startCommand_op, hstation, hfc, haddr, htid]
  exact (sameAnswer_emit _).setResults fun _ => ⟨rfl, rfl⟩

theorem dataOperand_congr (hdpres : s₁.op.dpres = s₂.op.dpres) (hin : inputBytes s₁ = inputBytes s₂) :
    dataOperand s₁ = dataOperand s₂ := by
  rw [dataOperand, dataOperand, hdpres, hin]

theorem dataLength_congr (hdpres : s₁.op.dpres = s₂.op.dpres) (hilen : s₁.op.ilen = s₂.op.ilen) : dataLength s₁ = dataLength s₂ := by
  rw [dataLength, dataLength, hdpres, hilen]

theorem rtuAddressAndWord_congr (hop : agreeOnRead .rtuBuildUnsupported s₁.op s₂.op) : rtuAddressAndWord s₁ = rtuAddressAndWord s₂ := by
  obtain ⟨-, -, haddr, hlv, -⟩ := hop
  rw [rtuAddressAndWord, rtuAddressAndWord, haddr, hlv]

theorem rtuBodyFc05_congr (hop : agreeOnRead .rtuBuildFc05 s₁.op s₂.op) : rtuBodyFc05 s₁ = rtuBodyFc05 s₂ := by
  obtain ⟨-, -, haddr, hlv, -⟩ := hop
  rw [rtuBodyFc05, rtuBodyFc05, haddr, hlv]

theorem rtuBodyFc0F_congr (hop : agreeOnRead .rtuBuildFc0F s₁.op s₂.op) (hin : inputBytes s₁ = inputBytes s₂) :
    rtuBodyFc0F s₁ = rtuBodyFc0F s₂ := by
  have hword := rtuAddressAndWord_congr hop
  obtain ⟨-, -, -, hlv, hdpres, -⟩ := hop
  rw [rtuBodyFc0F, rtuBodyFc0F, dataOperand_congr hdpres hin, hword, hlv]

theorem rtuBodyFc10_congr (hop : agreeOnRead .rtuBuildFc10 s₁.op s₂.op) (hin : inputBytes s₁ = inputBytes s₂) :
    rtuBodyFc10 s₁ = rtuBodyFc10 s₂ := by
  have hword := rtuAddressAndWord_congr hop
  obtain ⟨-, -, -, -, hdpres, hilen⟩ := hop
  rw [rtuBodyFc10, rtuBodyFc10, dataOperand_congr hdpres hin, hword, hilen]

/-- The PDU of the four read forms (43_tcp_build.md R131 to R134). -/
theorem readPdu_congr (code : Byte) (hop : agreeOnRead .tcpBuildReqUnsupported s₁.op s₂.op) :
    [code] ++ be16 s₁.op.addr ++ be16 s₁.op.lv = [code] ++ be16 s₂.op.addr ++ be16 s₂.op.lv := by
  obtain ⟨-, -, haddr, hlv, -⟩ := hop
  rw [haddr, hlv]

theorem tcpPduFc05_congr (src : Config.ValueSource) (hop : agreeOnRead .tcpBuildReqFc05 s₁.op s₂.op)
    (hin : inputBytes s₁ = inputBytes s₂) : tcpPduFc05 src s₁ = tcpPduFc05 src s₂ := by
  obtain ⟨-, -, haddr, hlv, -, hdpres, hilen⟩ := hop
  unfold tcpPduFc05
  rw [dataLength_congr hdpres hilen, haddr, hlv, hin]

theorem tcpPduFc06_congr (src : Config.ValueSource) (hop : agreeOnRead .tcpBuildReqFc06 s₁.op s₂.op)
    (hin : inputBytes s₁ = inputBytes s₂) : tcpPduFc06 src s₁ = tcpPduFc06 src s₂ := by
  obtain ⟨-, -, haddr, hlv, -, hdpres, hilen⟩ := hop
  unfold tcpPduFc06
  rw [dataLength_congr hdpres hilen, haddr, hlv, hin]

theorem tcpPduFc0F_congr (hop : agreeOnRead .tcpBuildReqFc0F s₁.op s₂.op) (hin : inputBytes s₁ = inputBytes s₂) :
    tcpPduFc0F s₁ = tcpPduFc0F s₂ := by
  obtain ⟨-, -, haddr, hlv, -, hdpres, hilen⟩ := hop
  rw [tcpPduFc0F, tcpPduFc0F, dataOperand_congr hdpres hin, dataLength_congr hdpres hilen, haddr, hlv]

theorem tcpPduFc10_congr (hop : agreeOnRead .tcpBuildReqFc10 s₁.op s₂.op) (hin : inputBytes s₁ = inputBytes s₂) :
    tcpPduFc10 s₁ = tcpPduFc10 s₂ := by
  obtain ⟨-, -, haddr, -, -, hdpres, hilen⟩ := hop
  rw [tcpPduFc10, tcpPduFc10, dataLength_congr hdpres hilen, haddr, hin]

/-! ### Every command -/

/-- A command shows the host the same after any two states that agree on what its row reads (30_encoding.md R62). -/
theorem exec_sameOutcome {i : Instr} (hop : agreeOnRead i s₁.op s₂.op) (hin : readsInput i = true → inputBytes s₁ = inputBytes s₂) :
    SameOutcome (exec i s₁) (exec i s₂) := by
  cases i with
  | crc16 => exact operation_sameOutcome hop (crc16Body_sameEnd (hin rfl))
  | crcValidate => exact operation_sameOutcome hop (crcValidateBody_sameEnd (hin rfl))
  | rtuBuildFc01 | rtuBuildFc02 | rtuBuildFc03 | rtuBuildFc04 | rtuBuildFc06 =>
    exact rtuBuild_sameOutcome hop (congrArg Except.ok (rtuAddressAndWord_congr hop))
  | rtuBuildFc05 => exact rtuBuild_sameOutcome hop (rtuBodyFc05_congr hop)
  | rtuBuildFc0F => exact rtuBuild_sameOutcome hop (rtuBodyFc0F_congr hop (hin rfl))
  | rtuBuildFc10 => exact rtuBuild_sameOutcome hop (rtuBodyFc10_congr hop (hin rfl))
  | rtuBuildUnsupported => exact rtuBuild_sameOutcome hop rfl
  | rtuParse => exact operation_sameOutcome hop (rtuParseBody_sameEnd (hin rfl))
  | tcpBuildReqFc01 | tcpBuildReqFc02 | tcpBuildReqFc03 | tcpBuildReqFc04 =>
    exact tcpBuildReq_sameOutcome hop (congrArg Except.ok (readPdu_congr _ hop))
  | tcpBuildReqFc05 => exact tcpBuildReq_sameOutcome hop (tcpPduFc05_congr _ hop (hin rfl))
  | tcpBuildReqFc06 => exact tcpBuildReq_sameOutcome hop (tcpPduFc06_congr _ hop (hin rfl))
  | tcpBuildReqFc0F => exact tcpBuildReq_sameOutcome hop (tcpPduFc0F_congr hop (hin rfl))
  | tcpBuildReqFc10 => exact tcpBuildReq_sameOutcome hop (tcpPduFc10_congr hop (hin rfl))
  | tcpBuildReqUnsupported => exact tcpBuildReq_sameOutcome hop rfl
  | tcpBuildResp =>
    have ⟨_, _, _, _, hilen⟩ := hop
    exact operation_sameOutcome hilen (tcpBuildRespBody_sameEnd hop (hin rfl))
  | tcpParse => exact operation_sameOutcome hop (tcpParseBody_sameEnd (hin rfl))
  | getBits =>
    obtain ⟨hfc, hilen⟩ := hop
    exact operation_sameOutcome hilen (getBitsBody_sameEnd hfc (hin rfl))
  | getRegs =>
    obtain ⟨hfc, hilen⟩ := hop
    exact operation_sameOutcome hilen (getRegsBody_sameEnd hfc hilen (hin rfl))
  | illegalOp00 | illegalOp0A0B | illegalOp0C0F | illegalOp101F | illegalOp203F | illegalOp407F | illegalOp80FF =>
    exact illegalOpcode_sameOutcome

end

/-! ## The run of a `COPY` line -/

/-- The moves that copy `bytes`, those `OBUF` shows from index `i` on, to the same indexes of `IBUF`. -/
def copyByteMoves (i : Nat) : List Byte → List HostMove
  | [] => []
  | b :: bs => .readObuf i :: .writeIbuf i b :: copyByteMoves (i + 1) bs

theorem flatMap_range'_eq_copyByteMoves (f : Nat → Byte) (n : Nat) : ∀ i,
    ((List.range' i n).flatMap fun j => [HostMove.readObuf j, .writeIbuf j (f j)]) = copyByteMoves i ((List.range' i n).map f) := by
  induction n with
  | zero => intro i; rfl
  | succ n ih =>
    intro i
    rw [List.range'_succ, List.flatMap_cons, ih, List.map_cons]
    rfl

theorem copyMoves_eq (s : State) :
    copyMoves s = copyByteMoves 0 (outputBytes s) ++ [.writeReg (regNumber .opIlen) s.res.olen.toNat] := by
  rw [copyMoves, outputBytes, List.range_eq_range', flatMap_range'_eq_copyByteMoves]

@[simp] theorem copyByteMoves_length (bytes : List Byte) : ∀ i, (copyByteMoves i bytes).length = 2 * bytes.length := by
  induction bytes with
  | nil => intro i; rfl
  | cons b bs ih => intro i; simp only [copyByteMoves, List.length_cons, ih]; omega

/-- A byte read and then written: besides that byte of `IBUF`, only the host's moves and answers change. -/
theorem run_copyByte {t : State} {i : Nat} {b : Byte} {rest : List HostMove} (h : t.moves = .readObuf i :: .writeIbuf i b :: rest)
    (hin : i < Config.inCap) (hout : i < Config.outCap) (k : Nat) :
    ∃ answers, Host.Core.run Sys2Proof.core (k + 2) t =
      Host.Core.run Sys2Proof.core k { t with moves := rest, ibuf := Memory.write t.ibuf i b, answers := answers } := by
  refine ⟨t.answers ++ [(obufByte t i).setWidth 32], ?_⟩
  rw [run_succ (step_readObuf h hout), run_succ (step_writeIbuf rfl hin)]
  rfl

/-- The copying moves store all the bytes in `IBUF`, and what is to run after them runs on. -/
theorem run_copyByteMoves {rest : List HostMove} (k : Nat) (bytes : List Byte) : ∀ (i : Nat) (t : State),
    i + bytes.length ≤ Config.inCap → i + bytes.length ≤ Config.outCap → t.moves = copyByteMoves i bytes ++ rest →
    ∃ answers, Host.Core.run Sys2Proof.core (2 * bytes.length + k) t =
      Host.Core.run Sys2Proof.core k { t with moves := rest, ibuf := Memory.writeSeq t.ibuf i bytes, answers := answers } := by
  induction bytes with
  | nil =>
    intro i t _ _ hmoves
    rw [copyByteMoves, List.nil_append] at hmoves
    exact ⟨t.answers, by rw [List.length_nil, Nat.mul_zero, Nat.zero_add, Memory.writeSeq, ← hmoves]⟩
  | cons b bs ih =>
    intro i t hin hout hmoves
    rw [List.length_cons] at hin hout
    obtain ⟨answers, hbyte⟩ := run_copyByte hmoves (by omega) (by omega) (2 * bs.length + k)
    obtain ⟨answers', hrest⟩ := ih (i + 1)
      { t with moves := copyByteMoves (i + 1) bs ++ rest, ibuf := Memory.write t.ibuf i b, answers := answers }
      (by omega) (by omega) rfl
    have hcount : 2 * (b :: bs).length + k = 2 * bs.length + k + 2 := by
      rw [List.length_cons]
      omega
    rw [hcount]
    exact ⟨answers', hbyte.trans hrest⟩

/-- The input bytes are what was last stored from index 0 on, when `OP_ILEN` is their number. -/
theorem inputBytes_of_writeSeq {m : Memory Byte} {bytes : List Byte} {t : State} (hi : t.ibuf = Memory.writeSeq m 0 bytes)
    (hn : t.op.ilen.toNat = bytes.length) : inputBytes t = bytes := by
  apply List.ext_getElem
  · rw [inputBytes_length, hn]
  · intro i _ h
    simp [inputBytes, ibufByte, hi, Memory.read_writeSeq_inside m bytes h]

end Sys2Proof.Machine

namespace Sys2Proof.Proofs

open Sys2Proof.Machine Sys2Proof.Claims

/-- Settles O5: the byte encodes the command, and the decoder answers the one command a byte encodes. -/
theorem decodeEncodeAgree : Obligations.DecodeEncodeAgree := by
  intro i fc rest hwf hselected
  have hdecode : decodeOpcode fc (opcodeOf i) = i := decodeOpcode_eq_iff.2 ⟨hwf, hselected, rfl⟩
  simp [encode, decode, hdecode]

/-- Settles O6: no bytes are no command, and the first of any others encodes what it is decoded to. -/
theorem decodedCommandIsItsEncoding : Obligations.DecodedCommandIsItsEncoding := by
  refine ⟨fun fc bytes i rest hdecode => ?_, fun fc op rest => ⟨_, rfl⟩⟩
  cases bytes with
  | nil => cases hdecode
  | cons op tail =>
    cases hdecode
    obtain ⟨hwf, hselected, hop⟩ := encodes_decodeOpcode fc op
    exact ⟨hwf, hselected, by rw [encode, hop, List.singleton_append]⟩

/-- Settles O9: a table word decodes to what its byte encodes under its `OP_FC`, and placing it makes that the next command. -/
theorem fetchWordRunsTheTableWord : Obligations.FetchWordRunsTheTableWord := by
  intro s nbits w i hdecode
  have hencodes := encodes_of_decodeTableWord hdecode
  rw [hencodes.opcode_eq]
  exact step_placeCommand hencodes s

/-- Settles O46: the bodies and the envelopes read the state only where the row of the command says, and what they store and how long it is
decides what the host finds. -/
theorem commandsDependOnTheirOperandsOnly : Obligations.CommandsDependOnTheirOperandsOnly :=
  fun _ _ _ hop hin => exec_sameOutcome hop hin

/-- Settles O55: the moves of the line but the last store the output bytes in `IBUF`, one by one, and the last writes their number. -/
theorem copyLineMakesTheOutputTheInput : Obligations.CopyLineMakesTheOutputTheInput := by
  intro s hidle hin hout
  have hbytes := outputBytes_length s
  have hwide : s.res.olen.toNat < 2 ^ 16 := by
    have := inCap_lt_max
    omega
  have hmoves : (placeLine .copy s).moves = copyByteMoves 0 (outputBytes s) ++ [.writeReg (regNumber .opIlen) s.res.olen.toNat] := by
    rw [placeLine, hidle, List.nil_append, lineMoves, copyMoves_eq]
  obtain ⟨answers, hrun⟩ := run_copyByteMoves 1 (outputBytes s) 0 _ (by omega) (by omega) hmoves
  have hlength : (copyMoves s).length = 2 * (outputBytes s).length + 1 := by
    rw [copyMoves_eq, List.length_append, copyByteMoves_length, List.length_singleton]
  rw [hlength, hrun, run_one, step_writeReg (r := .opIlen) rfl (by decide) hwide]
  refine ⟨_, rfl, inputBytes_of_writeSeq rfl ?_, rfl, rfl, rfl, rfl, rfl⟩
  rw [hbytes]
  exact Nat.mod_eq_of_lt hwide

/-- Settles O7. -/
theorem sampleCommandBytesDecode : Obligations.SampleCommandBytesDecode := by
  unfold Obligations.SampleCommandBytesDecode
  and_intros <;> rfl

/-- Settles O38: every opcode that is no operation is one error entry after the start of a command. -/
theorem illegalOpcodesOnlySetStatus : Obligations.IllegalOpcodesOnlySetStatus :=
  fun _ s hi => failsWith_of_exec_raise (exec_of_not_operation hi s)

end Sys2Proof.Proofs
end

section
/-! PROOFS. The checksum family: the shift register as an injective linear map, and from it the table-driven form, the detection of a single
inverted bit (40_crc.md R90, R94) and the two operations (R91, R93). -/

namespace Sys2Proof.Machine

open Sys2Proof.Claims

/-! ## One shift, bit by bit -/

theorem getLsbD_crcShift (c : Word) (i : Nat) :
    (crcShift c).getLsbD i = (c.getLsbD (i + 1) ^^ (c.getLsbD 0 && crcPolynomial.getLsbD i)) := by
  unfold crcShift
  split
  · next h => rw [BitVec.getLsbD_xor, BitVec.getLsbD_ushiftRight, h, Bool.true_and, Nat.add_comm]
  · next h => rw [BitVec.getLsbD_ushiftRight, Bool.eq_false_of_not_eq_true h, Bool.false_and, Bool.xor_false, Nat.add_comm]

/-- The shift is linear over exclusive-or, as every bit of it is. -/
theorem crcShift_xor (a b : Word) : crcShift (a ^^^ b) = crcShift a ^^^ crcShift b := by
  apply BitVec.eq_of_getLsbD_eq
  intro i _
  simp only [getLsbD_crcShift, BitVec.getLsbD_xor, Bool.and_xor_distrib_right, Bool.xor_assoc, Bool.xor_left_comm]

/-- Nothing is lost by the shift: the bit shifted out comes back as bit 15, the top bit of the polynomial. -/
theorem crcShift_injective : Function.Injective crcShift := by
  intro a b h
  have hbit (i : Nat) : (a.getLsbD (i + 1) ^^ (a.getLsbD 0 && crcPolynomial.getLsbD i)) =
      (b.getLsbD (i + 1) ^^ (b.getLsbD 0 && crcPolynomial.getLsbD i)) := by
    rw [← getLsbD_crcShift, h, getLsbD_crcShift]
  have hout : a.getLsbD 0 = b.getLsbD 0 := by
    simpa [crcPolynomial] using hbit 15
  apply BitVec.eq_of_getLsbD_eq
  intro i _
  cases i with
  | zero => exact hout
  | succ i =>
    have h := hbit i
    rwa [hout, Bool.xor_left_inj] at h

/-! ## A run of shifts -/

theorem crcShifts_xor (n : Nat) : ∀ a b : Word, crcShifts n (a ^^^ b) = crcShifts n a ^^^ crcShifts n b := by
  induction n with
  | zero => intro a b; rfl
  | succ n ih => intro a b; rw [crcShifts, crcShift_xor, ih]; rfl

theorem crcShifts_injective (n : Nat) : Function.Injective (crcShifts n) := by
  induction n with
  | zero => exact Function.injective_id
  | succ n ih => exact ih.comp crcShift_injective

/-- While only zeros are shifted out the polynomial is not applied. -/
theorem crcShifts_of_low_zero (n : Nat) : ∀ c : Word, (∀ i < n, c.getLsbD i = false) → crcShifts n c = c >>> n := by
  induction n with
  | zero => intro c _; exact (BitVec.ushiftRight_zero c).symm
  | succ n ih =>
    intro c hlow
    have hshift : crcShift c = c >>> 1 := by rw [crcShift, hlow 0 n.succ_pos]; rfl
    have hlow' : ∀ i < n, (c >>> 1).getLsbD i = false := by
      intro i hi
      rw [BitVec.getLsbD_ushiftRight]
      exact hlow (1 + i) (by omega)
    rw [crcShifts, hshift, ih _ hlow', ← BitVec.shiftRight_add, Nat.add_comm]

/-! ## One byte -/

/-- A word is its high byte in place and its low byte. -/
theorem shiftLeft_xor_lo8 (c : Word) : ((c >>> 8) <<< 8) ^^^ (lo8 c).setWidth 16 = c := by
  apply BitVec.eq_of_getLsbD_eq
  intro i hi
  by_cases h : i < 8
  · simp [lo8, h, hi]
  · simp [lo8, h, hi, Nat.add_sub_of_le (Nat.le_of_not_lt h)]

/-- The step of the table-driven form: the high byte moves down and the table entry of the low byte and the new byte is added (R90). -/
theorem crcByte_eq_tableStep (c : Word) (b : Byte) : crcByte c b = (c >>> 8) ^^^ crcShifts 8 ((lo8 c ^^^ b).setWidth 16) := by
  have hlow : ∀ i < 8, ((c >>> 8) <<< 8).getLsbD i = false := by
    intro i hi
    simp [hi]
  have hsplit : c ^^^ b.setWidth 16 = ((c >>> 8) <<< 8) ^^^ (lo8 c ^^^ b).setWidth 16 := by
    rw [BitVec.setWidth_xor, ← BitVec.xor_assoc, shiftLeft_xor_lo8]
  have hhigh : ((c >>> 8) <<< 8) >>> 8 = c >>> 8 := by
    apply BitVec.eq_of_getLsbD_eq
    intro i _
    simpa using fun h => BitVec.lt_of_getLsbD h
  rw [crcByte, hsplit, crcShifts_xor, crcShifts_of_low_zero 8 _ hlow, hhigh]

theorem crcByte_left_injective (b : Byte) : Function.Injective fun c => crcByte c b :=
  fun _ _ h => BitVec.xor_left_inj _ |>.1 (crcShifts_injective 8 h)

theorem crcByte_right_injective (c : Word) : Function.Injective (crcByte c) := by
  intro a b h
  have hwide : a.setWidth 16 = b.setWidth 16 := BitVec.xor_right_inj _ |>.1 (crcShifts_injective 8 h)
  simpa using congrArg (BitVec.setWidth 8) hwide

/-! ## A sequence -/

theorem foldl_crcByte_injective (bytes : List Byte) : Function.Injective fun c => bytes.foldl crcByte c := by
  induction bytes with
  | nil => exact Function.injective_id
  | cons b bytes ih => exact ih.comp (crcByte_left_injective b)

/-- Two registers that start equal and differ in one byte read stay different. -/
theorem foldl_crcByte_set_ne {v : Byte} (bytes : List Byte) : ∀ (k : Nat) (c : Word), k < bytes.length → v ≠ bytes.getD k 0#8 →
    (bytes.set k v).foldl crcByte c ≠ bytes.foldl crcByte c := by
  induction bytes with
  | nil => intro k c hk; simp at hk
  | cons b bytes ih =>
    intro k c hk hv
    cases k with
    | zero =>
      intro h
      exact hv (crcByte_right_injective c (foldl_crcByte_injective bytes h))
    | succ k =>
      exact ih k (crcByte c b) (by simpa using hk) (by simpa using hv)

theorem crc16_eq_iff (a b : List Byte) : crc16 a = crc16 b ↔ crcRegister a = crcRegister b := by
  constructor
  · intro h
    obtain ⟨hlo, hhi⟩ := Prod.mk.inj h
    rw [← u16be_hi8_lo8 (crcRegister a), hlo, hhi, u16be_hi8_lo8]
  · intro h
    rw [crc16, h, crc16]

theorem crc16_set_ne {bytes : List Byte} {k : Nat} {v : Byte} (hk : k < bytes.length) (hv : v ≠ bytes.getD k 0#8) :
    crc16 (bytes.set k v) ≠ crc16 bytes := by
  rw [Ne, crc16_eq_iff]
  exact foldl_crcByte_set_ne bytes k crcInitial hk hv

/-! ## The check of a frame -/

theorem slice_append_left {α : Type} (a b : List α) : slice (a ++ b) 0 a.length = a := by simp [slice]

theorem slice_append_right {α : Type} (a b : List α) : slice (a ++ b) a.length (a ++ b).length = b := by
  rw [slice, List.take_length, List.drop_left]

/-- `crc_ok` compares the last two bytes, low byte first, with the checksum of the bytes before them (R92). -/
theorem crcOk_append_pair (body : List Byte) (a b : Byte) : crcOk (body ++ [a, b]) = some (decide ((a, b) = crc16 body)) := by
  have hlength : (body ++ [a, b]).length - 2 = body.length := by simp
  have hcompare : ([a, b] == crcBytes body) = decide ((a, b) = crc16 body) := by
    rw [Bool.eq_iff_iff]
    simp [crcBytes, Prod.ext_iff]
  rw [crcOk, if_neg (by simp), hlength, slice_append_left, slice_append_right, hcompare]

theorem crcOk_append_pair_eq_false {body : List Byte} {a b : Byte} (h : (a, b) ≠ crc16 body) :
    crcOk (body ++ [a, b]) = some false := by
  rw [crcOk_append_pair, decide_eq_false h]

theorem crcOk_withCrc (body : List Byte) : crcOk (withCrc body) = some true := by
  rw [withCrc, crcOk_append_pair, decide_eq_true rfl]

theorem crcOk_eq_none {f : List Byte} (h : f.length < 2) : crcOk f = none := if_pos h

/-! ## One bit inverted -/

theorem xor_bit_ne {j : Nat} (hj : j < 8) (x : Byte) : x ^^^ (1#8 <<< j) ≠ x := by
  intro h
  have hbit := congrArg (BitVec.getLsbD · j) h
  simp [hj] at hbit

/-- The inverted bit lies in the sequence itself: the checksum of the sequence changes and the one appended does not. -/
theorem crcOk_flipBit_body {body : List Byte} {k j : Nat} (hk : k < body.length) (hj : j < 8) :
    crcOk (flipBit (withCrc body) k j) = some false := by
  have hflip : flipBit (withCrc body) k j = body.set k (body.getD k 0#8 ^^^ 1#8 <<< j) ++ [(crc16 body).1, (crc16 body).2] := by
    rw [flipBit, withCrc, List.getD_append _ _ _ _ hk, List.set_append_left _ _ hk]
  rw [hflip]
  exact crcOk_append_pair_eq_false (crc16_set_ne hk (xor_bit_ne hj _)).symm

/-- The inverted bit lies in one of the two bytes appended: the checksum of the sequence does not change. -/
theorem crcOk_flipBit_crc (body : List Byte) {k j : Nat} (hk : k < 2) (hj : j < 8) :
    crcOk (flipBit (withCrc body) (body.length + k) j) = some false := by
  have hflip : flipBit (withCrc body) (body.length + k) j = body ++ flipBit [(crc16 body).1, (crc16 body).2] k j := by
    rw [flipBit, withCrc, List.getD_append_right _ _ _ _ (by omega), List.set_append_right _ _ (by omega), Nat.add_sub_cancel_left,
      flipBit]
  rw [hflip]
  match k, hk with
  | 0, _ => exact crcOk_append_pair_eq_false fun h => xor_bit_ne hj _ (congrArg Prod.fst h)
  | 1, _ => exact crcOk_append_pair_eq_false fun h => xor_bit_ne hj _ (congrArg Prod.snd h)

/-! ## How an operation that stores nothing ends -/

section
variable {i : Instr} {s : State} {body : State → Except Status State} (hexec : exec i s = operation (opcodeOf i) body s)
include hexec

theorem endsWith_of_setResults {f : Results → Results} (hin : InRange s)
    (hbody : body (startCommand (opcodeOf i) s) = .ok (setResults f (startCommand (opcodeOf i) s))) :
    EndsWith i s (f Results.cleared) :=
  ⟨_, hexec.trans (congrArg Host.Outcome.next (runOperation_ok hin hbody)), rfl, rfl, ⟨rfl, rfl, rfl, rfl, rfl⟩, rfl, rfl⟩

theorem failsWith_of_error {kind : Status} (hin : InRange s) (hbody : body (startCommand (opcodeOf i) s) = .error kind) :
    FailsWith i s kind :=
  failsWith_of_exec_raise (by rw [hexec, operation, runOperation_error hin hbody])

theorem failsWith_range (hin : ¬ InRange s) : FailsWith i s .range :=
  failsWith_of_exec_raise (by rw [hexec, operation, runOperation_range (Nat.lt_of_not_le hin)])

end

/-! ## The two operations -/

theorem exec_crc16 (s : State) : exec .crc16 s = operation opcodeCrc16 crc16Body s := rfl

theorem exec_crcValidate (s : State) : exec .crcValidate s = operation opcodeCrcValidate crcValidateBody s := rfl

theorem setValid_decide_zero (p : Prop) [Decidable p] : setValid (decide p) 0#8 = if p then 0x01#8 else 0x00#8 := by
  by_cases h : p <;> simp [h, setValid, boolBit]

/-- `CRC_VALIDATE` of a sequence and the two bytes after it (R93). -/
theorem crcValidateBody_of_append_pair {s : State} {body : List Byte} {a b : Byte} (h : inputBytes s = body ++ [a, b]) :
    crcValidateBody s =
      .ok (setResults (fun r => { r with crc := crcWord body, flags := setValid (decide ((a, b) = crc16 body)) r.flags }) s) := by
  have hlength : (body ++ [a, b]).length - 2 = body.length := by simp
  simp only [crcValidateBody, h, crcOk_append_pair, hlength, slice_append_left]

theorem crcValidateBody_of_short {s : State} (h : s.op.ilen.toNat < 2) : crcValidateBody s = .error .frameTooShort := by
  rw [crcValidateBody, crcOk_eq_none (by rwa [inputBytes_length])]

end Sys2Proof.Machine

namespace Sys2Proof.Proofs

open Sys2Proof.Machine Sys2Proof.Claims

/-- Settles O11: the shift register loses nothing, so one changed byte of the sequence changes its checksum. -/
theorem checksumDetectsEverySingleBitError : Obligations.ChecksumDetectsEverySingleBitError := by
  refine ⟨crcOk_withCrc, fun b k j hk hj => ?_⟩
  rcases Nat.lt_or_ge k b.length with hbody | hcrc
  · exact crcOk_flipBit_body hbody hj
  · obtain ⟨n, rfl⟩ := Nat.exists_eq_add_of_le hcrc
    exact crcOk_flipBit_crc b (by omega) hj

/-- Settles O12: by linearity, the eight shifts of a byte are the table entry of the low byte and the high byte moved down. -/
theorem tableDrivenChecksumAgrees : Obligations.TableDrivenChecksumAgrees := by
  intro b
  have hstep : (fun (c : Word) (x : Byte) => (c >>> 8) ^^^ crcShifts 8 ((lo8 c ^^^ x).setWidth 16)) = crcByte :=
    funext₂ fun c x => (crcByte_eq_tableStep c x).symm
  rw [crcByTable, hstep, crcRegister]

/-- Settles O14. -/
theorem crcValidateComparesTheTrailingBytes : Obligations.CrcValidateComparesTheTrailingBytes := by
  intro s hin
  refine ⟨fun body a b hinput => ?_, fun hshort => ?_⟩
  · have hends := endsWith_of_setResults (exec_crcValidate s) hin (crcValidateBody_of_append_pair hinput)
    rw [← setValid_decide_zero]
    exact hends
  · exact failsWith_of_error (exec_crcValidate s) hin (crcValidateBody_of_short hshort)

/-- Settles O13. -/
theorem crc16ReturnsTheChecksum : Obligations.Crc16ReturnsTheChecksum :=
  fun s => ⟨fun hin => endsWith_of_setResults (exec_crc16 s) hin rfl, failsWith_range (exec_crc16 s)⟩

end Sys2Proof.Proofs
end

section
/-! PROOFS. The RTU request packer: every form is the one envelope over its own body (41_rtu_build.md R100), so a form ends as its body does,
and what is left is what each body builds or reports (R101 to R112). -/

namespace Sys2Proof.Machine

open Sys2Proof.Claims

/-! ## How an operation that stores an output ends -/

theorem outputs_of_emit {i : Instr} {s : State} {body : State → Except Status State} {f : Results → Results} {bytes : List Byte}
    {r : Results} (hexec : exec i s = operation (opcodeOf i) body s) (hin : InRange s)
    (hbody : body (startCommand (opcodeOf i) s) = .ok (setResults f (emit bytes (startCommand (opcodeOf i) s))))
    (hlength : bytes.length < 2 ^ 32)
    (hres : f { Results.cleared with olen := BitVec.ofNat 32 bytes.length } = { r with olen := BitVec.ofNat 32 bytes.length }) :
    Outputs i s bytes r := by
  have hnext := hexec.trans (congrArg Host.Outcome.next (runOperation_ok hin hbody))
  have holen := congrArg Results.olen hres
  exact ⟨_, hnext, outputBytes_emit bytes (startCommand (opcodeOf i) s) _ hlength rfl holen, hres, rfl, ⟨rfl, rfl, rfl, rfl, rfl⟩, rfl,
    fun _ ha => Memory.read_writeSeq_outside _ _ ha⟩

/-! ## The envelope over the body of a form -/

theorem crcWord_eq_crcRegister (bytes : List Byte) : crcWord bytes = crcRegister bytes := u16be_hi8_lo8 _

/-- The command `i` is the form of `RTU_BUILD` whose body is `body` (41_rtu_build.md R100). -/
structure RtuForm (i : Instr) (body : State → Except Status (List Byte)) : Prop where
  exec_eq : ∀ s, exec i s = rtuBuild body s
  opcode_eq : opcodeOf i = opcodeRtuBuild
  builds : Builds i body

namespace RtuForm

variable {i : Instr} {body : State → Except Status (List Byte)} {s : State}

theorem exec_operation (h : RtuForm i body) (s : State) :
    exec i s = operation (opcodeOf i) (fun t => (body t).map (rtuEnvelope t)) s := by
  rw [h.opcode_eq]
  exact h.exec_eq s

theorem length_le (h : RtuForm i body) {pdu : List Byte} (hbody : body s = .ok pdu) : pdu.length ≤ s.op.ilen.toNat + 6 := by
  have hbuilds := h.builds s
  rwa [hbody] at hbuilds

/-- When the body builds, the frame is station, function code and body with their checksum, and these three are the results (R100). -/
theorem outputs (h : RtuForm i body) {fc : Byte} {pdu head : List Byte} (hin : InRange s) (hfc : s.op.fc = fc)
    (hbody : body (startCommand (opcodeOf i) s) = .ok pdu) (hhead : head = [s.op.station, fc] ++ pdu) :
    Outputs i s (withCrc head) { Results.cleared with station := s.op.station, fc := fc, crc := crcRegister head } := by
  subst hfc hhead
  have hilen := s.op.ilen.isLt
  have hpdu := h.length_le hbody
  rw [startCommand_op] at hpdu
  refine outputs_of_emit (h.exec_operation s) hin (congrArg (Except.map _) hbody) ?_ ?_
  · simp only [withCrc, List.length_append, List.length_cons, List.length_nil]
    omega
  · rw [← crcWord_eq_crcRegister]
    rfl

theorem failsWith_of_error (h : RtuForm i body) {kind : Status} (hin : InRange s)
    (hbody : body (startCommand (opcodeOf i) s) = .error kind) : FailsWith i s kind :=
  Machine.failsWith_of_error (h.exec_operation s) hin (congrArg (Except.map _) hbody)

theorem failsWith_range (h : RtuForm i body) (hin : ¬ InRange s) : FailsWith i s .range :=
  Machine.failsWith_range (h.exec_operation s) hin

end RtuForm

theorem rtuForm_fc05 : RtuForm .rtuBuildFc05 rtuBodyFc05 := ⟨fun _ => rfl, rfl, rtuBodyFc05_builds⟩

theorem rtuForm_fc0F : RtuForm .rtuBuildFc0F rtuBodyFc0F := ⟨fun _ => rfl, rfl, rtuBodyFc0F_builds⟩

theorem rtuForm_fc10 : RtuForm .rtuBuildFc10 rtuBodyFc10 := ⟨fun _ => rfl, rfl, rtuBodyFc10_builds⟩

theorem rtuForm_unsupported : RtuForm .rtuBuildUnsupported rtuBodyUnsupported :=
  ⟨fun _ => rfl, rfl, unsupported_builds (by decide)⟩

/-! ## The bodies of the two multiple writes -/

theorem dataOperand_of_absent {s : State} (h : s.op.dpres = 0#1) : dataOperand s = none := by
  simp [dataOperand, h]

theorem dataOperand_of_present {s : State} (h : s.op.dpres = 1#1) : dataOperand s = some (inputBytes s) := by
  simp [dataOperand, h]

theorem ceilDiv_eight (n : Nat) : ceilDiv n 8 = (n + 7) / 8 := rfl

theorem rtuBodyFc0F_of_absent {s : State} (h : s.op.dpres = 0#1) : rtuBodyFc0F s = .error .invalidDataLength := by
  simp only [rtuBodyFc0F, dataOperand_of_absent h]

/-- 2040 coils fill 255 bytes, the most that the byte count can say (41_rtu_build.md R112). -/
theorem rtuBodyFc0F_of_count_gt {s : State} (h : s.op.dpres = 1#1) (hcount : 2040 < s.op.lv.toNat) :
    rtuBodyFc0F s = .error .range := by
  simp only [rtuBodyFc0F, dataOperand_of_present h, ceilDiv_eight]
  exact if_pos (by omega)

theorem rtuBodyFc0F_of_count_le {s : State} (h : s.op.dpres = 1#1) (hcount : s.op.lv.toNat ≤ 2040) :
    rtuBodyFc0F s = .ok (rtuAddressAndWord s ++ [BitVec.ofNat 8 ((s.op.lv.toNat + 7) / 8)] ++ inputBytes s) := by
  simp only [rtuBodyFc0F, dataOperand_of_present h, ceilDiv_eight]
  exact if_neg (by omega)

theorem rtuBodyFc10_of_absent {s : State} (h : s.op.dpres = 0#1) : rtuBodyFc10 s = .error .invalidDataLength := by
  simp only [rtuBodyFc10, dataOperand_of_absent h]

theorem rtuBodyFc10_of_length_gt {s : State} (h : s.op.dpres = 1#1) (hlength : 255 < s.op.ilen.toNat) :
    rtuBodyFc10 s = .error .range := by
  simp only [rtuBodyFc10, dataOperand_of_present h, if_pos hlength]

theorem rtuBodyFc10_of_length_le {s : State} (h : s.op.dpres = 1#1) (hlength : s.op.ilen.toNat ≤ 255) :
    rtuBodyFc10 s = .ok (rtuAddressAndWord s ++ [BitVec.ofNat 8 s.op.ilen.toNat] ++ inputBytes s) := by
  simp only [rtuBodyFc10, dataOperand_of_present h, if_neg (Nat.not_lt.2 hlength)]

end Sys2Proof.Machine

namespace Sys2Proof.Proofs

open Sys2Proof.Machine Sys2Proof.Claims

/-- Settles O15: the five forms have one body, address and word, which never fails. -/
theorem rtuReadAndSingleRegisterFrames : Obligations.RtuReadAndSingleRegisterFrames := by
  intro s p hp hfc
  have hform : RtuForm p.1 (fun t => .ok (rtuAddressAndWord t)) := by
    simp only [List.mem_cons, List.not_mem_nil, or_false] at hp
    rcases hp with rfl | rfl | rfl | rfl | rfl
    all_goals exact ⟨fun _ => rfl, rfl, rtuAddressAndWord_builds⟩
  exact ⟨fun hin => hform.outputs hin hfc rfl rfl, hform.failsWith_range⟩

/-- Settles O16: the value byte is the one `singleCoilBytes` gives for `OP_LV`. -/
theorem rtuSingleCoilFrame : Obligations.RtuSingleCoilFrame := by
  refine fun s hfc => ⟨fun hin v hv => ?_, rtuForm_fc05.failsWith_range⟩
  subst hv
  exact rtuForm_fc05.outputs hin hfc rfl rfl

/-- Settles O17, by what the body does with absent data, too large a count and any other count. -/
theorem rtuMultipleCoilsFrame : Obligations.RtuMultipleCoilsFrame := by
  intro s hin hfc
  refine ⟨fun habsent => ?_, fun hpresent hcount => ?_, fun hpresent hcount head hhead => ?_⟩
  · exact rtuForm_fc0F.failsWith_of_error hin (rtuBodyFc0F_of_absent habsent)
  · exact rtuForm_fc0F.failsWith_of_error hin (rtuBodyFc0F_of_count_gt hpresent hcount)
  · exact rtuForm_fc0F.outputs hin hfc (rtuBodyFc0F_of_count_le hpresent hcount) hhead

/-- Settles O18. More than 255 bytes of data are `RANGE` by the body, or before it where they are more than `IN_CAP`; up to 255 bytes are
within every `IN_CAP`. -/
theorem rtuMultipleRegistersFrame : Obligations.RtuMultipleRegistersFrame := by
  intro s hfc
  refine ⟨fun hin habsent => ?_, fun hpresent hlength => ?_, fun hpresent hlength head hhead => ?_⟩
  · exact rtuForm_fc10.failsWith_of_error hin (rtuBodyFc10_of_absent habsent)
  · by_cases hin : InRange s
    · exact rtuForm_fc10.failsWith_of_error hin (rtuBodyFc10_of_length_gt hpresent hlength)
    · exact rtuForm_fc10.failsWith_range hin
  · exact rtuForm_fc10.outputs (le_inCap hlength) hfc (rtuBodyFc10_of_length_le hpresent hlength) hhead

/-- Settles O19: none of the eight supported codes leaves the last row of the decoder, whose body reads no operand. -/
theorem rtuUnsupportedFunctionCodeFails : Obligations.RtuUnsupportedFunctionCodeFails := by
  intro s hin hfc
  have hunsupported : (!supportedFunctionCodes.contains s.op.fc) = true := by
    rw [Bool.not_eq_true', List.contains_eq_mem, decide_eq_false_iff_not]
    exact hfc
  exact ⟨decodeRtuForm_of_not_supported hunsupported, rtuForm_unsupported.failsWith_of_error hin rfl⟩

end Sys2Proof.Proofs
end

section
/-! PROOFS. The RTU response unpacker: the body as one equation over a frame of at least four bytes (42_rtu_parse.md R120 to R122), then the
payload of each kind of function code in terms of the bytes before the checksum (R124 to R127), and the request that parses back (R128). -/

namespace Sys2Proof.Machine

open Sys2Proof.Claims

/-! ## Slices of the bytes before the checksum -/

/-- A slice clamped at the end of `l` takes nothing of what follows `l` (42_rtu_parse.md R127). -/
theorem slice_append_clamped {α : Type} (l tail : List α) (start stop : Nat) :
    slice (l ++ tail) start (min stop l.length) = slice l start stop := by
  rw [slice, slice, List.take_append_of_le_length (Nat.min_le_right ..), ← List.take_eq_take_min]

theorem slice_append_add {α : Type} (pre l : List α) (n : Nat) : slice (pre ++ l) pre.length (pre.length + n) = l.take n := by
  rw [slice, List.take_length_add_append, List.drop_left]

theorem slice_eq_nil_of_length_le {α : Type} {l : List α} {start : Nat} (h : l.length ≤ start) (stop : Nat) :
    slice l start stop = [] :=
  List.drop_eq_nil_of_le (le_trans (List.length_take_le' ..) h)

/-! ## The payload by the function code -/

theorem isCounted_of_mem {fc : Byte} (h : fc ∈ [0x01#8, 0x02#8, 0x03#8, 0x04#8]) : isCounted fc = true := List.contains_iff_mem.2 h

theorem isFixedFour_of_mem {fc : Byte} (h : fc ∈ [0x05#8, 0x06#8, 0x0F#8, 0x10#8]) : isFixedFour fc = true := List.contains_iff_mem.2 h

theorem not_isCounted_of_mem : ∀ {fc : Byte}, fc ∈ [0x05#8, 0x06#8, 0x0F#8, 0x10#8] → isCounted fc = false := by decide

/-- The supported function codes are the counted ones and those of four fixed bytes. -/
theorem mem_supportedFunctionCodes_iff (fc : Byte) : fc ∈ supportedFunctionCodes ↔ isCounted fc = true ∨ isFixedFour fc = true := by
  rw [isCounted, isFixedFour, List.contains_iff_mem, List.contains_iff_mem, ← List.mem_append]
  rfl

theorem rtuPayload_of_counted {fc : Byte} (h : isCounted fc = true) (head : List Byte) (count : Byte) :
    rtuPayload (withCrc head) fc count head.length =
      (slice head 3 (3 + count.toNat), decide (head.length < 3 + count.toNat)) := by
  simp only [rtuPayload, payloadBounds, h, if_true, withCrc, slice_append_clamped]

theorem rtuPayload_of_fixedFour {fc : Byte} (hcounted : isCounted fc = false) (h : isFixedFour fc = true) (head : List Byte)
    (count : Byte) : rtuPayload (withCrc head) fc count head.length = (slice head 2 6, decide (head.length < 6)) := by
  simp only [rtuPayload, payloadBounds, hcounted, h, Bool.false_eq_true, if_false, if_true, withCrc, slice_append_clamped]

theorem rtuPayload_of_not_supported {fc : Byte} (h : fc ∉ supportedFunctionCodes) (raw : List Byte) (count : Byte) (lim : Nat) :
    rtuPayload raw fc count lim = ([], false) := by
  obtain ⟨hcounted, hfixed⟩ := not_or.1 (mt (mem_supportedFunctionCodes_iff fc).2 h)
  simp only [rtuPayload, payloadBounds, if_neg hcounted, if_neg hfixed]

theorem setTrunc_decide_zero (p : Prop) [Decidable p] : setTrunc (decide p) 0#8 = if p then 0x02#8 else 0x00#8 := by
  by_cases h : p <;> simp [h, setTrunc, boolBit]

/-! ## The operation over a frame -/

theorem exec_rtuParse (s : State) : exec .rtuParse s = operation opcodeRtuParse rtuParseBody s := rfl

/-- The checksum decides what becomes of a frame of four bytes or more (42_rtu_parse.md R122, R123). -/
theorem rtuParseBody_of_append_pair {s : State} {body rest : List Byte} {a b st fc count last : Byte}
    (hinput : inputBytes s = body ++ [a, b]) (hraw : body ++ [a, b] = st :: fc :: count :: last :: rest) :
    rtuParseBody s =
      if (a, b) = crc16 body then
        .ok (setResults (fun r =>
            { r with station := st, fc := fc, crc := crcWord body,
                     flags := setTrunc (rtuPayload (body ++ [a, b]) fc count body.length).2 r.flags })
          (emit (rtuPayload (body ++ [a, b]) fc count body.length).1 s))
      else .error .checksumMismatch := by
  have hlength : (body ++ [a, b]).length - 2 = body.length := by simp
  simp only [rtuParseBody, hinput.trans hraw]
  simp only [← hraw, crcOk_append_pair, hlength, slice_append_left, Option.some.injEq, decide_eq_true_eq]

theorem rtuParseBody_of_short {s : State} (h : s.op.ilen.toNat < 4) : rtuParseBody s = .error .frameTooShort := by
  rw [← inputBytes_length] at h
  unfold rtuParseBody
  split
  · next hinput =>
    rw [hinput] at h
    simp only [List.length_cons] at h
    omega
  · rfl

/-- Two bytes after any others leave at least two to name. -/
theorem append_pair_eq_cons_cons {α : Type} (l : List α) (a b : α) : ∃ x y rest, l ++ [a, b] = x :: y :: rest := by
  match l with
  | [] => exact ⟨a, b, [], rfl⟩
  | [x] => exact ⟨x, a, [b], rfl⟩
  | x :: y :: rest => exact ⟨x, y, rest ++ [a, b], rfl⟩

section
variable {s : State} (hin : InRange s)
include hin

/-- A frame with its checksum parses: the results are those of its head, and the output is its payload for the byte it has at offset 2, which
is a byte of the checksum when the head is two bytes (42_rtu_parse.md R123, R124). -/
theorem rtuParse_outputs {st fc : Byte} {others : List Byte} (hinput : inputBytes s = withCrc ([st, fc] ++ others)) :
    ∃ count, (withCrc ([st, fc] ++ others))[2]? = some count ∧
      Outputs .rtuParse s (rtuPayload (withCrc ([st, fc] ++ others)) fc count ([st, fc] ++ others).length).1
        { Results.cleared with
            station := st, fc := fc, crc := crcRegister ([st, fc] ++ others),
            flags := setTrunc (rtuPayload (withCrc ([st, fc] ++ others)) fc count ([st, fc] ++ others).length).2 0#8 } := by
  obtain ⟨count, last, rest, hrest⟩ :=
    append_pair_eq_cons_cons others (crc16 ([st, fc] ++ others)).1 (crc16 ([st, fc] ++ others)).2
  have hraw : withCrc ([st, fc] ++ others) = st :: fc :: count :: last :: rest := congrArg (st :: fc :: ·) hrest
  refine ⟨count, by rw [hraw]; rfl, ?_⟩
  have hbody := (rtuParseBody_of_append_pair (s := startCommand opcodeRtuParse s) hinput hraw).trans (if_pos rfl)
  refine outputs_of_emit (exec_rtuParse s) hin hbody ?_ ?_
  · have hilen := s.op.ilen.isLt
    have hpayload := rtuPayload_length_le (withCrc ([st, fc] ++ others)) fc count ([st, fc] ++ others).length
    rw [← hinput, inputBytes_length, hinput] at hpayload
    exact lt_trans (lt_of_le_of_lt hpayload hilen) (by decide)
  · rw [← crcWord_eq_crcRegister]
    rfl

/-- What stands after the byte count, as far as the count goes (42_rtu_parse.md R124, R127). -/
theorem rtuParse_outputs_of_counted {st fc n : Byte} {rest : List Byte} (hfc : fc ∈ [0x01#8, 0x02#8, 0x03#8, 0x04#8])
    (hinput : inputBytes s = withCrc ([st, fc, n] ++ rest)) :
    Outputs .rtuParse s (rest.take n.toNat)
      { Results.cleared with
          station := st, fc := fc, crc := crcRegister ([st, fc, n] ++ rest),
          flags := if rest.length < n.toNat then 0x02#8 else 0x00#8 } := by
  obtain ⟨count, hcount, houtputs⟩ := rtuParse_outputs hin (others := n :: rest) hinput
  obtain rfl : n = count := Option.some.inj hcount
  have hpayload : rtuPayload (withCrc ([st, fc] ++ n :: rest)) fc n ([st, fc] ++ n :: rest).length =
      (rest.take n.toNat, decide (rest.length < n.toNat)) := by
    rw [rtuPayload_of_counted (isCounted_of_mem hfc), Prod.mk.injEq, decide_eq_decide]
    exact ⟨slice_append_add [st, fc, n] rest n.toNat, by simp only [List.length_append, List.length_cons, List.length_nil]; omega⟩
  rw [hpayload] at houtputs
  rw [← setTrunc_decide_zero]
  exact houtputs

/-- A frame too short for a byte count: the byte at offset 2 is a byte of the checksum, and no payload is left (42_rtu_parse.md R127). -/
theorem rtuParse_outputs_of_counted_nil {st fc : Byte} (hfc : fc ∈ [0x01#8, 0x02#8, 0x03#8, 0x04#8])
    (hinput : inputBytes s = withCrc [st, fc]) :
    Outputs .rtuParse s [] { Results.cleared with station := st, fc := fc, flags := 0x02#8, crc := crcRegister [st, fc] } := by
  obtain ⟨count, -, houtputs⟩ := rtuParse_outputs hin (others := []) hinput
  have hpayload : rtuPayload (withCrc ([st, fc] ++ [])) fc count ([st, fc] ++ []).length = ([], true) := by
    rw [rtuPayload_of_counted (isCounted_of_mem hfc), Prod.mk.injEq, decide_eq_true_eq]
    exact ⟨slice_eq_nil_of_length_le (by simp) _, Nat.lt_add_right _ (Nat.lt_succ_self 2)⟩
  rw [hpayload] at houtputs
  exact houtputs

/-- The first four bytes after the function code, as far as the head has them (42_rtu_parse.md R125, R127). -/
theorem rtuParse_outputs_of_fixedFour {st fc : Byte} {rest : List Byte} (hfc : fc ∈ [0x05#8, 0x06#8, 0x0F#8, 0x10#8])
    (hinput : inputBytes s = withCrc ([st, fc] ++ rest)) :
    Outputs .rtuParse s (rest.take 4)
      { Results.cleared with
          station := st, fc := fc, crc := crcRegister ([st, fc] ++ rest), flags := if rest.length < 4 then 0x02#8 else 0x00#8 } := by
  obtain ⟨count, -, houtputs⟩ := rtuParse_outputs hin hinput
  have hpayload : rtuPayload (withCrc ([st, fc] ++ rest)) fc count ([st, fc] ++ rest).length =
      (rest.take 4, decide (rest.length < 4)) := by
    rw [rtuPayload_of_fixedFour (not_isCounted_of_mem hfc) (isFixedFour_of_mem hfc), Prod.mk.injEq, decide_eq_decide]
    exact ⟨slice_append_add [st, fc] rest 4, by simp only [List.length_append, List.length_cons, List.length_nil]; omega⟩
  rw [hpayload] at houtputs
  rw [← setTrunc_decide_zero]
  exact houtputs

/-- Any other function code has no payload (42_rtu_parse.md R126). -/
theorem rtuParse_outputs_of_not_supported {st fc : Byte} {rest : List Byte} (hfc : fc ∉ supportedFunctionCodes)
    (hinput : inputBytes s = withCrc ([st, fc] ++ rest)) :
    Outputs .rtuParse s [] { Results.cleared with station := st, fc := fc, crc := crcRegister ([st, fc] ++ rest) } := by
  obtain ⟨count, -, houtputs⟩ := rtuParse_outputs hin hinput
  rw [rtuPayload_of_not_supported hfc] at houtputs
  exact houtputs

/-- Station and function code of a frame with its checksum (42_rtu_parse.md R123). -/
theorem rtuParse_envelope {st fc : Byte} {others : List Byte} (hinput : inputBytes s = withCrc ([st, fc] ++ others)) :
    ∃ t, exec .rtuParse s = .next t ∧ t.res.status = .ok ∧ t.res.station = st ∧ t.res.fc = fc := by
  obtain ⟨count, -, t, hexec, -, hres, -⟩ := rtuParse_outputs hin hinput
  exact ⟨t, hexec, congrArg Results.status hres, congrArg Results.station hres, congrArg Results.fc hres⟩

theorem rtuParse_failsWith_checksumMismatch {body : List Byte} {a b : Byte} (hinput : inputBytes s = body ++ [a, b])
    (hlength : 2 ≤ body.length) (hcrc : (a, b) ≠ crc16 body) : FailsWith .rtuParse s .checksumMismatch := by
  match body, hlength with
  | st :: fc :: others, _ =>
    obtain ⟨count, last, rest, hrest⟩ := append_pair_eq_cons_cons others a b
    have hraw := congrArg (st :: fc :: ·) hrest
    have hbody := (rtuParseBody_of_append_pair (s := startCommand opcodeRtuParse s) hinput hraw).trans (if_neg hcrc)
    exact failsWith_of_error (exec_rtuParse s) hin hbody

end

/-! ## A request that was built -/

theorem status_of_failsWith {i : Instr} {s t : State} {kind : Status} (h : FailsWith i s kind) (hexec : exec i s = .next t) :
    t.res.status = kind := by
  obtain ⟨u, hu, hres, -⟩ := h
  cases hexec.symm.trans hu
  rw [hres]

/-- No error of a body has the number of success. -/
def ErrorsAreNotOk (body : State → Except Status (List Byte)) : Prop := ∀ s, body s ≠ .error .ok

theorem rtuBodyFc0F_errorsAreNotOk : ErrorsAreNotOk rtuBodyFc0F := by
  intro s
  unfold rtuBodyFc0F
  split
  · exact nofun
  · split <;> exact nofun

theorem rtuBodyFc10_errorsAreNotOk : ErrorsAreNotOk rtuBodyFc10 := by
  intro s
  unfold rtuBodyFc10
  split
  · exact nofun
  · split <;> exact nofun

/-- A form that ends `OK` has built a frame with its checksum behind station and function code (41_rtu_build.md R100). -/
theorem RtuForm.frame_of_status_ok {i : Instr} {body : State → Except Status (List Byte)} {s t : State} (h : RtuForm i body)
    (herrors : ErrorsAreNotOk body) (hexec : exec i s = .next t) (hok : t.res.status = .ok) :
    ∃ pdu, outputBytes t = withCrc ([s.op.station, s.op.fc] ++ pdu) := by
  by_cases hin : InRange s
  · cases hbody : body (startCommand (opcodeOf i) s) with
    | ok pdu =>
      obtain ⟨u, hu, houtput, -⟩ := h.outputs hin rfl hbody rfl
      cases hexec.symm.trans hu
      exact ⟨pdu, houtput⟩
    | error kind =>
      have hkind := status_of_failsWith (h.failsWith_of_error hin hbody) hexec
      rw [← hkind, hok] at hbody
      exact absurd hbody (herrors _)
  · have hkind := status_of_failsWith (h.failsWith_range hin) hexec
    rw [hok] at hkind
    cases hkind

/-- The forms whose body is address and word never fail. -/
theorem exists_rtuForm_of_addressAndWord {i : Instr} (hexec : ∀ s, exec i s = rtuBuild (fun t => .ok (rtuAddressAndWord t)) s)
    (hopcode : opcodeOf i = opcodeRtuBuild) : ∃ body, RtuForm i body ∧ ErrorsAreNotOk body :=
  ⟨_, ⟨hexec, hopcode, rtuAddressAndWord_builds⟩, fun _ => nofun⟩

theorem exists_rtuForm : ∀ p ∈ rtuForms, ∃ body, RtuForm p.1 body ∧ ErrorsAreNotOk body := by
  have hword {i : Instr} := exists_rtuForm_of_addressAndWord (i := i)
  simp only [rtuForms, List.forall_mem_cons]
  exact ⟨hword (fun _ => rfl) rfl, hword (fun _ => rfl) rfl, hword (fun _ => rfl) rfl, hword (fun _ => rfl) rfl,
    ⟨_, rtuForm_fc05, fun _ => nofun⟩, hword (fun _ => rfl) rfl, ⟨_, rtuForm_fc0F, rtuBodyFc0F_errorsAreNotOk⟩,
    ⟨_, rtuForm_fc10, rtuBodyFc10_errorsAreNotOk⟩, nofun⟩

end Sys2Proof.Machine

namespace Sys2Proof.Proofs

open Sys2Proof.Machine Sys2Proof.Claims

/-- Settles O20. -/
theorem rtuParseCopiesTheEnvelope : Obligations.RtuParseCopiesTheEnvelope :=
  fun _ hin _ _ _ hinput => rtuParse_envelope hin hinput

/-- Settles O21, by the three kinds of function code: the payload fits, so taking what the code names takes just that and clamps nothing. -/
theorem rtuParseExtractsThePayload : Obligations.RtuParseExtractsThePayload := by
  intro s hin st fc extra
  refine ⟨fun hfc n data hlength hinput => ?_, fun hfc d0 d1 d2 d3 hinput => ?_, rtuParse_outputs_of_not_supported hin⟩
  · rw [List.append_assoc] at hinput ⊢
    have houtputs := rtuParse_outputs_of_counted hin hfc hinput
    have hfits : ¬ (data ++ extra).length < n.toNat := by rw [List.length_append]; omega
    rwa [List.take_left' hlength, if_neg hfits] at houtputs
  · have houtputs := rtuParse_outputs_of_fixedFour hin (rest := [d0, d1, d2, d3] ++ extra) hfc hinput
    have hfits : ¬ ([d0, d1, d2, d3] ++ extra).length < 4 := by simp
    rwa [if_neg hfits] at houtputs

/-- Settles O22: what the code names is longer than what is left before the checksum, so taking it takes all of that. -/
theorem rtuParseClampsAtTheChecksum : Obligations.RtuParseClampsAtTheChecksum := by
  intro s hin st fc data
  refine ⟨fun hfc n hshort hinput => ?_, rtuParse_outputs_of_counted_nil hin, fun hfc hshort hinput => ?_⟩
  · have houtputs := rtuParse_outputs_of_counted hin hfc hinput
    rwa [List.take_of_length_le hshort.le, if_pos hshort] at houtputs
  · have houtputs := rtuParse_outputs_of_fixedFour hin hfc hinput
    rwa [List.take_of_length_le hshort.le, if_pos hshort] at houtputs

/-- Settles O23. -/
theorem rtuParseRejectsBadFrames : Obligations.RtuParseRejectsBadFrames :=
  fun s hin => ⟨fun hshort => failsWith_of_error (exec_rtuParse s) hin (rtuParseBody_of_short hshort),
    fun _ _ _ => rtuParse_failsWith_checksumMismatch hin⟩

/-- Settles O24: the output of a request that ended `OK` is a frame with its checksum, and of such a frame the parse copies the first two
bytes. -/
theorem rtuRequestParsesBack : Obligations.RtuRequestParsesBack := by
  intro p hp s t u _ hexec hok hin hinput
  obtain ⟨body, hform, herrors⟩ := exists_rtuForm p hp
  obtain ⟨pdu, hframe⟩ := hform.frame_of_status_ok herrors hexec hok
  exact rtuParse_envelope hin (hinput.trans hframe)

end Sys2Proof.Proofs
end

section
/-! PROOFS. The TCP packers: every form of the request packer is the one envelope over its own PDU (43_tcp_build.md R130), so a form ends as
its PDU does, and what is left is what each PDU is or reports (R131 to R142); the display number (R143); the response packer (R140); and the
parse of a request that was built (R144, 44_tcp_parse.md R150). -/

namespace Sys2Proof.Machine

open Sys2Proof.Claims

theorem not_contains_supported {fc : Byte} (h : fc ∉ supportedFunctionCodes) : (!supportedFunctionCodes.contains fc) = true := by
  rw [Bool.not_eq_true', List.contains_eq_mem, decide_eq_false_iff_not]
  exact h

/-! ## The display number by the register kind -/

section
variable {fc : Byte} (addr : Word)

theorem displayAddress_of_coil (h : fc ∈ [0x01#8, 0x05#8, 0x0F#8]) : displayAddress fc addr = addr.toNat + 1 :=
  if_pos (by simpa using h)

theorem displayAddress_of_holding (h : fc ∈ [0x03#8, 0x06#8, 0x10#8]) : displayAddress fc addr = addr.toNat + 40001 := by
  simp only [List.mem_cons, List.not_mem_nil, or_false] at h
  rcases h with rfl | rfl | rfl
  all_goals rfl

theorem displayAddress_of_not_supported (h : fc ∉ supportedFunctionCodes) : displayAddress fc addr = addr.toNat := by
  simp [displayAddress, (not_supported_iff fc).1 (not_contains_supported h)]

end

/-! ## The envelope over the PDU of a form -/

@[simp] theorem mbap_length (tid pid length : Word) (unit : Byte) : (mbap tid pid length unit).length = 7 := rfl

/-- The command `i` is the form of `TCP_BUILD_REQ` whose PDU is `pdu` (43_tcp_build.md R130). -/
structure TcpForm (i : Instr) (pdu : State → Except Status (List Byte)) : Prop where
  exec_eq : ∀ s, exec i s = operation (opcodeOf i) (fun t => (pdu t).map (tcpRequestEnvelope t)) s
  builds : Builds i pdu

namespace TcpForm

variable {i : Instr} {pdu : State → Except Status (List Byte)} {s : State}

/-- When the PDU is built, the frame is the MBAP header and the PDU; the header's length counts the unit id beside the PDU (R130). -/
theorem outputs (h : TcpForm i pdu) {bytes : List Byte} {length disp : Nat} (hin : InRange s)
    (hpdu : pdu (startCommand (opcodeOf i) s) = .ok bytes) (hlength : bytes.length + 1 = length)
    (hdisp : displayAddress s.op.fc s.op.addr = disp) :
    Outputs i s (mbap s.op.tid 0#16 (BitVec.ofNat 16 length) s.op.station ++ bytes) (requestResults s length disp) := by
  subst hlength hdisp
  have hilen := s.op.ilen.isLt
  have hbuilds := h.builds (startCommand (opcodeOf i) s)
  rw [hpdu] at hbuilds
  have hbytes : bytes.length ≤ s.op.ilen.toNat + 6 := hbuilds
  refine outputs_of_emit (h.exec_eq s) hin (congrArg (Except.map _) hpdu) ?_ rfl
  rw [List.length_append, mbap_length]
  omega

theorem failsWith_of_error (h : TcpForm i pdu) {kind : Status} (hin : InRange s)
    (hpdu : pdu (startCommand (opcodeOf i) s) = .error kind) : FailsWith i s kind :=
  Machine.failsWith_of_error (h.exec_eq s) hin (congrArg (Except.map _) hpdu)

theorem failsWith_range (h : TcpForm i pdu) (hin : ¬ InRange s) : FailsWith i s .range :=
  Machine.failsWith_range (h.exec_eq s) hin

/-- A PDU that would end in `RANGE` does so too where the operation ends in it already (60_exceptions.md R194). -/
theorem failsWith_range_of_error (h : TcpForm i pdu) (hpdu : pdu (startCommand (opcodeOf i) s) = .error .range) :
    FailsWith i s .range :=
  (em (InRange s)).elim (h.failsWith_of_error · hpdu) h.failsWith_range

end TcpForm

/-- The PDU of the read requests: function code, address and count (43_tcp_build.md R131 to R134). -/
def readPdu (code : Byte) (s : State) : Except Status (List Byte) := .ok ([code] ++ be16 s.op.addr ++ be16 s.op.lv)

/-- The PDU of the two single writes (43_tcp_build.md R136, R137): two bytes of data are required, and by the reading of `TCP_SW_VALUE_SRC`
they are the value, or the value comes from `OP_LV` in the layout of the code. -/
def singleWritePdu (code : Byte) (layout : Word → List Byte) (src : Config.ValueSource) (s : State) : Except Status (List Byte) :=
  if dataLength s < 2 then .error .invalidDataLength
  else
    match src with
    | .data => .ok ([code] ++ be16 s.op.addr ++ slice (inputBytes s) 0 2)
    | .length => .ok ([code] ++ be16 s.op.addr ++ layout s.op.lv)

theorem tcpPduFc05_eq : tcpPduFc05 = singleWritePdu 0x05#8 singleCoilBytes := rfl

theorem tcpPduFc06_eq : tcpPduFc06 = singleWritePdu 0x06#8 be16 := rfl

theorem tcpForm_fc01 : TcpForm .tcpBuildReqFc01 (readPdu 0x01#8) := ⟨fun _ => rfl, readPdu_builds _⟩

theorem tcpForm_fc02 : TcpForm .tcpBuildReqFc02 (readPdu 0x02#8) := ⟨fun _ => rfl, readPdu_builds _⟩

theorem tcpForm_fc03 : TcpForm .tcpBuildReqFc03 (readPdu 0x03#8) := ⟨fun _ => rfl, readPdu_builds _⟩

theorem tcpForm_fc04 : TcpForm .tcpBuildReqFc04 (readPdu 0x04#8) := ⟨fun _ => rfl, readPdu_builds _⟩

theorem tcpForm_fc05 : TcpForm .tcpBuildReqFc05 (singleWritePdu 0x05#8 singleCoilBytes Config.tcpSwValueSrc) :=
  tcpPduFc05_eq ▸ ⟨fun _ => rfl, tcpPduFc05_builds _⟩

theorem tcpForm_fc06 : TcpForm .tcpBuildReqFc06 (singleWritePdu 0x06#8 be16 Config.tcpSwValueSrc) :=
  tcpPduFc06_eq ▸ ⟨fun _ => rfl, tcpPduFc06_builds _⟩

theorem tcpForm_fc0F : TcpForm .tcpBuildReqFc0F tcpPduFc0F := ⟨fun _ => rfl, tcpPduFc0F_builds⟩

theorem tcpForm_fc10 : TcpForm .tcpBuildReqFc10 tcpPduFc10 := ⟨fun _ => rfl, tcpPduFc10_builds⟩

theorem tcpForm_unsupported : TcpForm .tcpBuildReqUnsupported tcpPduUnsupported :=
  ⟨fun _ => rfl, unsupported_builds (by decide)⟩

/-! ## What each PDU is or reports -/

theorem dataLength_of_absent {s : State} (h : s.op.dpres = 0#1) : dataLength s = 0 := by
  simp [dataLength, h]

theorem dataLength_of_present {s : State} (h : s.op.dpres = 1#1) : dataLength s = s.op.ilen.toNat := if_pos h

theorem dataLength_le (s : State) : dataLength s ≤ s.op.ilen.toNat := by
  rw [dataLength]
  split_ifs
  exacts [le_rfl, Nat.zero_le _]

section
variable {code : Byte} {layout : Word → List Byte} {src : Config.ValueSource} {s : State}

theorem singleWritePdu_of_short (h : dataLength s < 2) : singleWritePdu code layout src s = .error .invalidDataLength := if_pos h

/-- With two bytes of data the value is theirs or that of `OP_LV`, by the reading of `TCP_SW_VALUE_SRC`. -/
theorem singleWritePdu_of_value {d0 d1 v0 v1 : Byte} {surplus : List Byte} (hlong : ¬ dataLength s < 2)
    (hinput : inputBytes s = d0 :: d1 :: surplus) (hdata : src = .data → v0 = d0 ∧ v1 = d1)
    (hlength : src = .length → layout s.op.lv = [v0, v1]) :
    singleWritePdu code layout src s = .ok [code, hi8 s.op.addr, lo8 s.op.addr, v0, v1] := by
  unfold singleWritePdu
  rw [if_neg hlong]
  cases src with
  | data =>
    obtain ⟨rfl, rfl⟩ := hdata rfl
    rw [hinput]
    rfl
  | length =>
    rw [hlength rfl]
    rfl

theorem TcpForm.failsWith_of_short {i : Instr} (h : TcpForm i (singleWritePdu code layout src)) (hin : InRange s)
    (hshort : s.op.dpres = 0#1 ∨ s.op.ilen.toNat < 2) : FailsWith i s .invalidDataLength := by
  have hlt : dataLength s < 2 := hshort.elim (by simp [dataLength_of_absent ·]) (dataLength_le s).trans_lt
  exact h.failsWith_of_error hin (singleWritePdu_of_short hlt)

theorem TcpForm.outputs_of_value {i : Instr} {disp : Nat} {d0 d1 v0 v1 : Byte} {surplus : List Byte}
    (h : TcpForm i (singleWritePdu code layout src)) (hin : InRange s) (hdisp : displayAddress s.op.fc s.op.addr = disp)
    (hpresent : s.op.dpres = 1#1) (hinput : inputBytes s = d0 :: d1 :: surplus) (hdata : src = .data → v0 = d0 ∧ v1 = d1)
    (hlength : src = .length → layout s.op.lv = [v0, v1]) :
    Outputs i s (mbap s.op.tid 0#16 6#16 s.op.station ++ [code, hi8 s.op.addr, lo8 s.op.addr, v0, v1]) (requestResults s 6 disp) := by
  have hlong : ¬ dataLength s < 2 := by
    rw [dataLength_of_present hpresent, ← inputBytes_length, hinput]
    simp
  exact h.outputs hin (singleWritePdu_of_value hlong hinput hdata hlength) rfl hdisp

theorem tcpPduFc0F_of_absent (h : s.op.dpres = 0#1) : tcpPduFc0F s = .error .invalidDataLength := by
  simp only [tcpPduFc0F, dataOperand_of_absent h]

theorem tcpPduFc0F_of_length_gt (h : s.op.dpres = 1#1) (hlength : 255 < s.op.ilen.toNat) : tcpPduFc0F s = .error .range := by
  simp only [tcpPduFc0F, dataOperand_of_present h, dataLength_of_present h, if_pos hlength]

theorem tcpPduFc0F_of_length_le (h : s.op.dpres = 1#1) (hlength : s.op.ilen.toNat ≤ 255) :
    tcpPduFc0F s =
      .ok ([0x0F#8, hi8 s.op.addr, lo8 s.op.addr, hi8 s.op.lv, lo8 s.op.lv, BitVec.ofNat 8 s.op.ilen.toNat] ++ inputBytes s) := by
  simp only [tcpPduFc0F, dataOperand_of_present h, dataLength_of_present h, if_neg (Nat.not_lt.2 hlength)]
  rfl

theorem tcpPduFc10_of_absent_or_empty_or_odd (h : s.op.dpres = 0#1 ∨ s.op.ilen.toNat = 0 ∨ s.op.ilen.toNat % 2 = 1) :
    tcpPduFc10 s = .error .invalidDataLength := by
  refine if_pos ?_
  rcases BitVec.eq_zero_or_eq_one s.op.dpres with habsent | hpresent
  · exact .inl (dataLength_of_absent habsent)
  · rw [dataLength_of_present hpresent]
    exact h.resolve_left (by simp [hpresent])

theorem tcpPduFc10_of_length_gt (h : s.op.dpres = 1#1) (heven : s.op.ilen.toNat % 2 = 0) (hlength : 255 < s.op.ilen.toNat) :
    tcpPduFc10 s = .error .range := by
  rw [tcpPduFc10, dataLength_of_present h, if_neg (by omega), if_pos hlength]

/-- The register count is half the data length, whatever `OP_LV` holds (43_tcp_build.md R139). -/
theorem tcpPduFc10_of_length_le {count : Word} (h : s.op.dpres = 1#1) (hpos : 0 < s.op.ilen.toNat) (hlength : s.op.ilen.toNat ≤ 255)
    (hcount : count.toNat * 2 = s.op.ilen.toNat) :
    tcpPduFc10 s =
      .ok ([0x10#8, hi8 s.op.addr, lo8 s.op.addr, hi8 count, lo8 count, BitVec.ofNat 8 s.op.ilen.toNat] ++ inputBytes s) := by
  have hhalf : BitVec.ofNat 16 (s.op.ilen.toNat / 2) = count := by
    rw [← hcount, Nat.mul_div_cancel _ Nat.two_pos, BitVec.ofNat_toNat, BitVec.setWidth_eq]
  rw [tcpPduFc10, dataLength_of_present h, if_neg (by omega), if_neg (Nat.not_lt.2 hlength), hhalf]
  rfl

end

/-! ## The response packer -/

theorem exec_tcpBuildResp (s : State) : exec .tcpBuildResp s = operation opcodeTcpBuildResp tcpBuildRespBody s := rfl

theorem tcpBuildResp_outputs {s : State} (hin : InRange s) :
    Outputs .tcpBuildResp s
      (mbap s.op.tid s.op.pid (BitVec.ofNat 16 (2 + s.op.ilen.toNat)) s.op.station ++ [s.op.fc] ++ inputBytes s)
      { Results.cleared with
          tid := s.op.tid, pid := s.op.pid, len := BitVec.ofNat 16 (2 + s.op.ilen.toNat), station := s.op.station, fc := s.op.fc } := by
  refine outputs_of_emit (exec_tcpBuildResp s) hin rfl ?_ rfl
  have hilen := s.op.ilen.isLt
  simp only [List.length_append, mbap_length, List.length_singleton, inputBytes_length]
  omega

/-! ## A request that was built -/

theorem exec_tcpParse (s : State) : exec .tcpParse s = operation opcodeTcpParse tcpParseBody s := rfl

/-- Bytes that open with an MBAP header, a function code, an address and two more bytes parse to these fields (44_tcp_parse.md R150). -/
theorem tcpParse_endsWith {s : State} {tid pid length addr : Word} {st fc q0 q1 : Byte} {rest : List Byte} (hin : InRange s)
    (hinput : inputBytes s = mbap tid pid length st ++ fc :: hi8 addr :: lo8 addr :: q0 :: q1 :: rest) :
    EndsWith .tcpParse s
      { Results.cleared with
          tid := tid, pid := pid, len := length, station := st, fc := fc, addr := addr, qty := u16be q0 q1 } := by
  have hbody : tcpParseBody (startCommand opcodeTcpParse s) =
      .ok (setResults (fun r =>
        { r with tid := tid, pid := pid, len := length, station := st, fc := fc, addr := addr, qty := u16be q0 q1 })
        (startCommand opcodeTcpParse s)) := by
    simp only [tcpParseBody, inputBytes_startCommand, hinput, mbap, List.cons_append, List.nil_append, u16be_hi8_lo8]
  exact endsWith_of_setResults (exec_tcpParse s) hin hbody

/-- A PDU that is built opens with the function code `code`, the address and two more bytes; one that is not is an error. -/
def OpensWithAddress (code : Byte) (pdu : State → Except Status (List Byte)) : Prop :=
  ∀ s, (∃ q0 q1 rest, pdu s = .ok (code :: hi8 s.op.addr :: lo8 s.op.addr :: q0 :: q1 :: rest)) ∨
    ∃ kind, pdu s = .error kind ∧ kind ≠ .ok

theorem readPdu_opensWithAddress (code : Byte) : OpensWithAddress code (readPdu code) := fun _ => .inl ⟨_, _, _, rfl⟩

theorem singleWritePdu_opensWithAddress (code : Byte) {layout : Word → List Byte} (src : Config.ValueSource)
    (hlayout : ∀ v, ∃ b0 b1, layout v = [b0, b1]) : OpensWithAddress code (singleWritePdu code layout src) := by
  intro s
  rcases Nat.lt_or_ge (dataLength s) 2 with hshort | hlong
  · exact .inr ⟨_, singleWritePdu_of_short hshort, nofun⟩
  · have hinput := (dataLength_le s).trans' hlong
    rw [← inputBytes_length] at hinput
    obtain ⟨b0, b1, hb⟩ := hlayout s.op.lv
    match hdata : inputBytes s, hinput with
    | d0 :: d1 :: surplus, _ =>
      cases src with
      | data => exact .inl ⟨d0, d1, [], singleWritePdu_of_value (Nat.not_lt.2 hlong) hdata (fun _ => ⟨rfl, rfl⟩) nofun⟩
      | length => exact .inl ⟨b0, b1, [], singleWritePdu_of_value (Nat.not_lt.2 hlong) hdata nofun fun _ => hb⟩

theorem tcpPduFc0F_opensWithAddress : OpensWithAddress 0x0F#8 tcpPduFc0F := by
  intro s
  rcases BitVec.eq_zero_or_eq_one s.op.dpres with habsent | hpresent
  · exact .inr ⟨_, tcpPduFc0F_of_absent habsent, nofun⟩
  · rcases Nat.lt_or_ge 255 s.op.ilen.toNat with hgt | hle
    · exact .inr ⟨_, tcpPduFc0F_of_length_gt hpresent hgt, nofun⟩
    · exact .inl ⟨_, _, _, tcpPduFc0F_of_length_le hpresent hle⟩

theorem tcpPduFc10_opensWithAddress : OpensWithAddress 0x10#8 tcpPduFc10 := by
  intro s
  by_cases hinvalid : s.op.dpres = 0#1 ∨ s.op.ilen.toNat = 0 ∨ s.op.ilen.toNat % 2 = 1
  · exact .inr ⟨_, tcpPduFc10_of_absent_or_empty_or_odd hinvalid, nofun⟩
  · obtain ⟨hdpres, hlength⟩ := not_or.1 hinvalid
    have hpresent := (BitVec.eq_zero_or_eq_one s.op.dpres).resolve_left hdpres
    rcases Nat.lt_or_ge 255 s.op.ilen.toNat with hgt | hle
    · exact .inr ⟨_, tcpPduFc10_of_length_gt hpresent (by omega) hgt, nofun⟩
    · have hcount : (BitVec.ofNat 16 (s.op.ilen.toNat / 2)).toNat * 2 = s.op.ilen.toNat := by
        rw [BitVec.toNat_ofNat]
        omega
      exact .inl ⟨_, _, _, tcpPduFc10_of_length_le hpresent (by omega) hle hcount⟩

theorem exists_tcpForm : ∀ p ∈ tcpForms, ∃ pdu, TcpForm p.1 pdu ∧ OpensWithAddress p.2 pdu := by
  simp only [tcpForms, List.forall_mem_cons]
  exact ⟨⟨_, tcpForm_fc01, readPdu_opensWithAddress _⟩, ⟨_, tcpForm_fc02, readPdu_opensWithAddress _⟩,
    ⟨_, tcpForm_fc03, readPdu_opensWithAddress _⟩, ⟨_, tcpForm_fc04, readPdu_opensWithAddress _⟩,
    ⟨_, tcpForm_fc05, singleWritePdu_opensWithAddress _ _ fun _ => ⟨_, _, rfl⟩⟩,
    ⟨_, tcpForm_fc06, singleWritePdu_opensWithAddress _ _ fun _ => ⟨_, _, rfl⟩⟩,
    ⟨_, tcpForm_fc0F, tcpPduFc0F_opensWithAddress⟩, ⟨_, tcpForm_fc10, tcpPduFc10_opensWithAddress⟩, nofun⟩

/-- A form that ends `OK` has built a frame that opens with the header, whose length is in `R_LEN`, its function code and the address. -/
theorem TcpForm.frame_of_status_ok {i : Instr} {code : Byte} {pdu : State → Except Status (List Byte)} {s t : State}
    (h : TcpForm i pdu) (hopens : OpensWithAddress code pdu) (hexec : exec i s = .next t) (hok : t.res.status = .ok) :
    ∃ q0 q1 rest, outputBytes t =
      mbap s.op.tid 0#16 t.res.len s.op.station ++ code :: hi8 s.op.addr :: lo8 s.op.addr :: q0 :: q1 :: rest := by
  by_cases hin : InRange s
  · rcases hopens (startCommand (opcodeOf i) s) with ⟨q0, q1, rest, hpdu⟩ | ⟨kind, hpdu, hkind⟩
    · obtain ⟨u, hu, houtput, hres, -⟩ := h.outputs hin hpdu rfl rfl
      cases hexec.symm.trans hu
      rw [hres]
      exact ⟨q0, q1, rest, houtput⟩
    · exact absurd ((status_of_failsWith (h.failsWith_of_error hin hpdu) hexec).symm.trans hok) hkind
  · exact absurd ((status_of_failsWith (h.failsWith_range hin) hexec).symm.trans hok) nofun

end Sys2Proof.Machine

namespace Sys2Proof.Proofs

open Sys2Proof.Machine Sys2Proof.Claims

/-- Settles O25: the four forms have one PDU but for the function code, which never fails and is five bytes. -/
theorem tcpReadRequestFrames : Obligations.TcpReadRequestFrames := by
  intro s p hp hfc
  have hform : TcpForm p.1 (readPdu p.2.1) ∧ displayAddress p.2.1 s.op.addr = s.op.addr.toNat + p.2.2 := by
    simp only [List.mem_cons, List.not_mem_nil, or_false] at hp
    rcases hp with rfl | rfl | rfl | rfl
    exacts [⟨tcpForm_fc01, rfl⟩, ⟨tcpForm_fc02, rfl⟩, ⟨tcpForm_fc03, rfl⟩, ⟨tcpForm_fc04, rfl⟩]
  obtain ⟨hform, hdisp⟩ := hform
  exact ⟨fun hin => hform.outputs hin rfl rfl (hfc ▸ hdisp), hform.failsWith_range⟩

/-- Settles O26: under the reading `LENGTH` the value is the one `singleCoilBytes` gives for `OP_LV`. -/
theorem tcpSingleCoilFrame : Obligations.TcpSingleCoilFrame := by
  refine fun s hin hfc => ⟨tcpForm_fc05.failsWith_of_short hin, fun d0 d1 surplus hpresent hinput v0 v1 hdata hlength => ?_⟩
  have hlayout (hsrc : Config.tcpSwValueSrc = .length) : singleCoilBytes s.op.lv = [v0, v1] := by
    obtain ⟨rfl, rfl⟩ := hlength hsrc
    rfl
  exact tcpForm_fc05.outputs_of_value hin (displayAddress_of_coil _ (by simp [hfc])) hpresent hinput hdata hlayout

/-- Settles O27: under the reading `LENGTH` the value is `OP_LV` in big-endian order. -/
theorem tcpSingleRegisterFrame : Obligations.TcpSingleRegisterFrame := by
  refine fun s hin hfc => ⟨tcpForm_fc06.failsWith_of_short hin, fun d0 d1 surplus hpresent hinput v0 v1 hdata hlength => ?_⟩
  have hlayout (hsrc : Config.tcpSwValueSrc = .length) : be16 s.op.lv = [v0, v1] := by
    obtain ⟨rfl, rfl⟩ := hlength hsrc
    rfl
  exact tcpForm_fc06.outputs_of_value hin (displayAddress_of_holding _ (by simp [hfc])) hpresent hinput hdata hlayout

/-- Settles O28, by what the PDU is for absent data, too long data and any other data; up to 255 bytes are within every `IN_CAP`. -/
theorem tcpMultipleCoilsFrame : Obligations.TcpMultipleCoilsFrame := by
  intro s hfc
  have hdisp := displayAddress_of_coil s.op.addr (fc := s.op.fc) (by simp [hfc])
  refine ⟨fun hin habsent => ?_, fun hpresent hlength => ?_, fun hpresent hlength => ?_⟩
  · exact tcpForm_fc0F.failsWith_of_error hin (tcpPduFc0F_of_absent habsent)
  · exact tcpForm_fc0F.failsWith_range_of_error (tcpPduFc0F_of_length_gt hpresent hlength)
  · rw [List.append_assoc]
    refine tcpForm_fc0F.outputs (le_inCap hlength) (tcpPduFc0F_of_length_le hpresent hlength) ?_ hdisp
    simp only [List.length_append, List.length_cons, List.length_nil, inputBytes_length]
    omega

/-- Settles O29, by what the PDU is for absent, empty or odd data, for too long data and for any other data. -/
theorem tcpMultipleRegistersFrame : Obligations.TcpMultipleRegistersFrame := by
  intro s hfc
  have hdisp := displayAddress_of_holding s.op.addr (fc := s.op.fc) (by simp [hfc])
  refine ⟨fun hin hinvalid => ?_, fun hpresent heven hlength => ?_, fun hpresent heven hpos hlength count hcount => ?_⟩
  · exact tcpForm_fc10.failsWith_of_error hin (tcpPduFc10_of_absent_or_empty_or_odd hinvalid)
  · exact tcpForm_fc10.failsWith_range_of_error (tcpPduFc10_of_length_gt hpresent heven hlength)
  · rw [List.append_assoc]
    refine tcpForm_fc10.outputs (le_inCap hlength) (tcpPduFc10_of_length_le hpresent hpos hlength hcount) ?_ hdisp
    simp only [List.length_append, List.length_cons, List.length_nil, inputBytes_length]
    omega

/-- Settles O30: none of the eight supported codes leaves the last row of the decoder, whose PDU reads no operand. -/
theorem tcpUnsupportedFunctionCodeFails : Obligations.TcpUnsupportedFunctionCodeFails :=
  fun _ hin hfc => ⟨decodeTcpForm_of_not_supported (not_contains_supported hfc), tcpForm_unsupported.failsWith_of_error hin rfl⟩

/-- Settles O31. -/
theorem tcpResponseFrame : Obligations.TcpResponseFrame :=
  fun s => ⟨tcpBuildResp_outputs, failsWith_range (exec_tcpBuildResp s)⟩

/-- Settles O33: the output of a request that ended `OK` opens with the header, the function code and the address, and of such bytes the
parse copies these fields. -/
theorem tcpRequestParsesBack : Obligations.TcpRequestParsesBack := by
  intro p hp s t u hfc hexec hok hin hinput
  obtain ⟨pdu, hform, hopens⟩ := exists_tcpForm p hp
  obtain ⟨q0, q1, rest, hframe⟩ := hform.frame_of_status_ok hopens hexec hok
  obtain ⟨v, hv, hres, -⟩ := tcpParse_endsWith hin (hinput.trans hframe)
  rw [hfc]
  exact ⟨v, hv, by simp [hres, Results.cleared]⟩

/-- Settles O47: the largest display number, 105536, is far below the 32 bits of `R_DISP`. -/
theorem displayNumberByRegisterKind : Obligations.DisplayNumberByRegisterKind := by
  intro fc addr
  have hle := displayAddress_le fc addr
  have hfits : (BitVec.ofNat 32 (displayAddress fc addr)).toNat = displayAddress fc addr :=
    (BitVec.toNat_ofNat ..).trans (Nat.mod_eq_of_lt (hle.trans_lt (by decide)))
  refine ⟨displayAddress_of_coil addr, ?_, ?_, displayAddress_of_holding addr, displayAddress_of_not_supported addr, hfits, hle⟩
  · rintro rfl
    rfl
  · rintro rfl
    rfl

end Sys2Proof.Proofs
end

section
/-! PROOFS. The TCP request-header unpacker: twelve bytes are all it asks for (44_tcp_parse.md R151); what they parse to was proved with the TCP
packers, whose requests the parse reads back. -/

namespace Sys2Proof.Machine

theorem tcpParseBody_of_short {s : State} (h : s.op.ilen.toNat < 12) : tcpParseBody s = .error .frameTooShort := by
  rw [← inputBytes_length] at h
  unfold tcpParseBody
  split
  · next hinput =>
    rw [hinput] at h
    simp only [List.length_cons] at h
    omega
  · rfl

end Sys2Proof.Machine

namespace Sys2Proof.Proofs

open Sys2Proof.Machine Sys2Proof.Claims

/-- Settles O32: fewer than twelve bytes are within every `IN_CAP`, so they reach the body and fail there; of twelve or more, the last two
bytes of the header are the quantity. -/
theorem tcpParseExtractsTheHeader : Obligations.TcpParseExtractsTheHeader := by
  refine fun s => ⟨fun hshort => ?_, fun hin tid pid length addr qty st fc surplus hinput => ?_, failsWith_range (exec_tcpParse s)⟩
  · have hin : InRange s := le_inCap (by omega)
    exact failsWith_of_error (exec_tcpParse s) hin (tcpParseBody_of_short hshort)
  · have hends := tcpParse_endsWith hin hinput
    rwa [u16be_hi8_lo8] at hends

end Sys2Proof.Proofs
end

section
/-! PROOFS. The typed extraction: the two arrays element by element (45_typed_extraction.md R160, R162), and the two operations that list them
(R161, R163). -/

namespace Sys2Proof.Machine

open Sys2Proof.Claims

/-! ## The two arrays -/

/-- The bits of the first byte come first, and after its eight the bits of the others. -/
theorem getElem?_bits {i j : Nat} (hj : j < 8) (p : List Byte) (hi : i < p.length) :
    (bits p)[8 * i + j]? = some (p[i].getLsbD j) := by
  induction p generalizing i with
  | nil => exact absurd hi (Nat.not_lt_zero i)
  | cons b p ih =>
    have hbits : bits (b :: p) = byteBits b ++ bits p := List.flatMap_cons
    have hbyte : (byteBits b).length = 8 := rfl
    cases i with
    | zero =>
      rw [hbits, List.getElem?_append_left (by omega), byteBits, List.getElem?_map, List.getElem?_range (by omega)]
      simp
    | succ i =>
      have hindex : 8 * (i + 1) + j - (byteBits b).length = 8 * i + j := by omega
      rw [hbits, List.getElem?_append_right (by omega), hindex, ih (Nat.lt_of_succ_lt_succ hi), List.getElem_cons_succ]

/-- An odd byte at the end has no pair. -/
theorem regs_length : ∀ p : List Byte, (regs p).length = p.length / 2
  | [] => rfl
  | [_] => by simp [regs]
  | _ :: _ :: rest => by
    have ih := regs_length rest
    simp only [regs, List.length_cons]
    omega

theorem getElem?_regs : ∀ (p : List Byte) {j : Nat} (hj : 2 * j + 1 < p.length),
    (regs p)[j]? = some (u16be p[2 * j] p[2 * j + 1])
  | [], _, hj => absurd hj (Nat.not_lt_zero _)
  | [_], _, hj => absurd (Nat.lt_of_succ_lt_succ hj) (Nat.not_lt_zero _)
  | _ :: _ :: _, 0, _ => rfl
  | _ :: _ :: rest, j + 1, hj => getElem?_regs rest (j := j) (by simp only [List.length_cons] at hj; omega)

/-! ## How an operation that stores entries ends -/

theorem lists_of_emitv {i : Instr} {s : State} {body : State → Except Status State} {f : Results → Results} {entries : List Word}
    {r : Results} (hexec : exec i s = operation (opcodeOf i) body s) (hin : InRange s)
    (hbody : body (startCommand (opcodeOf i) s) = .ok (setResults f (emitv entries (startCommand (opcodeOf i) s))))
    (hlength : entries.length < 2 ^ 32)
    (hres : f { Results.cleared with vcnt := BitVec.ofNat 32 entries.length } = { r with vcnt := BitVec.ofNat 32 entries.length }) :
    Lists i s entries r := by
  have hnext := hexec.trans (congrArg Host.Outcome.next (runOperation_ok hin hbody))
  have hvcnt := congrArg Results.vcnt hres
  exact ⟨_, hnext, outputEntries_emitv entries (startCommand (opcodeOf i) s) _ hlength rfl hvcnt, hres, rfl,
    ⟨rfl, rfl, rfl, rfl, rfl⟩, rfl, fun _ ha => Memory.read_writeSeq_outside _ _ ha⟩

/-! ## The two operations -/

theorem exec_getBits (s : State) : exec .getBits s = operation opcodeGetBits getBitsBody s := rfl

theorem exec_getRegs (s : State) : exec .getRegs s = operation opcodeGetRegs getRegsBody s := rfl

section
variable {s : State}

theorem getBitsBody_of_bitKind (h : s.op.fc = 0x01#8 ∨ s.op.fc = 0x02#8) :
    getBitsBody s = .ok (setResults (fun r => { r with fc := s.op.fc }) (emitv ((bits (inputBytes s)).map boolEntry) s)) :=
  if_pos h

theorem getBitsBody_of_otherKind (h₁ : s.op.fc ≠ 0x01#8) (h₂ : s.op.fc ≠ 0x02#8) : getBitsBody s = .error .wrongResponseKind :=
  if_neg (not_or.2 ⟨h₁, h₂⟩)

theorem getRegsBody_of_even (h : s.op.fc = 0x03#8 ∨ s.op.fc = 0x04#8) (heven : s.op.ilen.toNat % 2 = 0) :
    getRegsBody s = .ok (setResults (fun r => { r with fc := s.op.fc }) (emitv (regs (inputBytes s)) s)) := by
  rw [getRegsBody, if_pos h, if_neg (by omega)]

theorem getRegsBody_of_odd (h : s.op.fc = 0x03#8 ∨ s.op.fc = 0x04#8) (hodd : s.op.ilen.toNat % 2 = 1) :
    getRegsBody s = .error .invalidDataLength := by
  rw [getRegsBody, if_pos h, if_pos hodd]

/-- The kind is tested before the parity (the spec's decision D15). -/
theorem getRegsBody_of_otherKind (h₁ : s.op.fc ≠ 0x03#8) (h₂ : s.op.fc ≠ 0x04#8) : getRegsBody s = .error .wrongResponseKind :=
  if_neg (not_or.2 ⟨h₁, h₂⟩)

end

end Sys2Proof.Machine

namespace Sys2Proof.Proofs

open Sys2Proof.Machine Sys2Proof.Claims

/-- Settles O34. -/
theorem bitArrayIsLeastSignificantFirst : Obligations.BitArrayIsLeastSignificantFirst :=
  fun p => ⟨bits_length p, fun _ _ hi hj => getElem?_bits hj p hi⟩

/-- Settles O35: register `j` is `u16be` of its pair of bytes, which in numbers is the first times 256 and the second. -/
theorem registerArrayPairsBigEndian : Obligations.RegisterArrayPairsBigEndian :=
  fun p _ => ⟨regs_length p, fun _ hj => ⟨_, getElem?_regs p hj, u16be_toNat _ _⟩⟩

/-- Settles O36, by the two kinds of function code; eight entries for each byte of a 16-bit length are far below the 32 bits of `R_VCNT`. -/
theorem getBitsListsTheBits : Obligations.GetBitsListsTheBits := by
  refine fun s => ⟨fun hin hfc => ?_, fun hin h₁ h₂ => ?_, failsWith_range (exec_getBits s)⟩
  · have hilen := s.op.ilen.isLt
    refine lists_of_emitv (exec_getBits s) hin (getBitsBody_of_bitKind hfc) ?_ rfl
    rw [List.length_map, bits_length, inputBytes_length]
    omega
  · exact failsWith_of_error (exec_getBits s) hin (getBitsBody_of_otherKind h₁ h₂)

/-- Settles O37, by the kind of function code and the parity; no list of a 16-bit number of bytes reaches the 32 bits of `R_VCNT`. -/
theorem getRegsListsTheRegisters : Obligations.GetRegsListsTheRegisters := by
  refine fun s hin => ⟨fun hfc heven => ?_, fun hfc hodd => ?_, fun h₁ h₂ => ?_⟩
  · have hilen := s.op.ilen.isLt
    refine lists_of_emitv (exec_getRegs s) hin (getRegsBody_of_even hfc heven) ?_ rfl
    rw [regs_length, inputBytes_length]
    omega
  · exact failsWith_of_error (exec_getRegs s) hin (getRegsBody_of_odd hfc hodd)
  · exact failsWith_of_error (exec_getRegs s) hin (getRegsBody_of_otherKind h₁ h₂)

end Sys2Proof.Proofs
end

section
/-! PROOFS. The host-side resolver (48_host_address_resolver.md): the decimal fields and the split of the header in terms of the library's
functions, the register type of a logical address, and the run of the moves a resolved header hands to the block. -/

namespace Sys2Proof.Machine

/-! ## Decimal fields -/

/-- The model's `DIGIT` is the library's `Char.isDigit`, with the value the library gives it. -/
theorem decDigit_of_isDigit {c : Char} (h : c.isDigit = true) : decDigit c = some (c.toNat - '0'.toNat) := by
  simp only [Char.isDigit, Bool.and_eq_true, decide_eq_true_eq] at h
  exact if_pos h

theorem decValue_of_digits {cs : List Char} (h : ∀ c ∈ cs, c.isDigit = true) (acc : Nat) :
    decValue acc cs = some (Nat.ofDigitChars 10 cs acc) := by
  induction cs generalizing acc with
  | nil => rfl
  | cons c cs ih =>
    rw [List.forall_mem_cons] at h
    rw [decValue, decDigit_of_isDigit h.1, Nat.ofDigitChars_cons, Nat.mul_comm 10]
    exact ih h.2 _

theorem decimal_toDigits {n v : Nat} (hn : 0 < n) (hv : v < 10 ^ n) : decimal n (Nat.toDigits 10 v) = some v := by
  have hlength : (Nat.toDigits 10 v).length ≤ n := (Nat.length_toDigits_le_iff (by decide) hn).2 hv
  have hdigits : ∀ c ∈ Nat.toDigits 10 v, c.isDigit = true := fun _ => Nat.isDigit_of_mem_toDigits (by decide) (by decide)
  rw [decimal, if_pos ⟨Nat.length_toDigits_pos, hlength⟩, decValue_of_digits hdigits, Nat.ofDigitChars_ten_toDigits]

/-! ## Logical and plain addresses -/

theorem logicalPrefix_eq_none {c : Char} (h : c ∉ ['1', '2', '3', '4']) : logicalPrefix c = none := by
  simp only [List.mem_cons, List.not_mem_nil, or_false, not_or] at h
  obtain ⟨h₁, h₂, h₃, h₄⟩ := h
  simp only [logicalPrefix, if_neg h₁, if_neg h₂, if_neg h₃, if_neg h₄]

theorem logicalAddress_eq_some {c : Char} {ds : List Char} {t : RegisterType} {v : Nat} (hc : logicalPrefix c = some t)
    (hds : decimal 5 ds = some v) (h₁ : 1 ≤ v) (h₂ : v ≤ 65535) : logicalAddress (c :: ds) = some (t, BitVec.ofNat 16 (v - 1)) := by
  simp [logicalAddress, hc, hds, h₁, h₂]

theorem logicalAddress_eq_none_of_logicalPrefix {c : Char} (hc : logicalPrefix c = none) (ds : List Char) : logicalAddress (c :: ds) = none := by
  simp [logicalAddress, hc]

theorem logicalAddress_eq_none_of_digits {ds : List Char} (hds : ∀ v, decimal 5 ds = some v → v = 0 ∨ 65535 < v) (c : Char) :
    logicalAddress (c :: ds) = none := by
  rw [logicalAddress]
  split
  · next v _ hv =>
    have := hds v hv
    exact if_neg (by omega)
  · rfl

theorem addressField_of_logical {cs : List Char} {ta : RegisterType × Word} (h : logicalAddress cs = some ta) :
    addressField cs = some ta := by
  rw [addressField, h]

theorem addressField_of_plain {cs : List Char} (h : logicalAddress cs = none) :
    addressField cs = (plainAddress cs).map fun a => (.holdingRegister, a) := by
  rw [addressField, h]

/-! ## The split of the header and the two forms -/

/-- The split of R171 is the library's split on `;`. -/
theorem splitFields_eq_splitOn (cs : List Char) : splitFields cs = cs.splitOn ';' := by
  induction cs with
  | nil => exact (List.splitOn_nil ';').symm
  | cons c cs ih =>
    rw [splitFields, List.splitOn_cons_eq_if_modifyHead, ih]
    by_cases hc : c = ';'
    · simp [hc]
    · cases hfields : cs.splitOn ';' with
      | nil => exact absurd hfields (List.splitOn_ne_nil ';' cs)
      | cons f fs => simp [hc]

theorem splitFields_intercalate {fields : List (List Char)} (hne : fields ≠ []) (hfields : ∀ f ∈ fields, ';' ∉ f) :
    splitFields (List.intercalate [';'] fields) = fields := by
  rw [splitFields_eq_splitOn, List.splitOn_intercalate ';' hfields hne]

theorem splitFields_two {st addr : List Char} (hst : ';' ∉ st) (haddr : ';' ∉ addr) : splitFields (st ++ ';' :: addr) = [st, addr] := by
  rw [splitFields_eq_splitOn, List.splitOn_append_cons_self_of_not_mem hst, List.splitOn_eq_singleton haddr]

theorem resolve_standard {header st fc addr : List Char} (h : splitFields header = [st, fc, addr]) (k : DataKind) (w : Bool) :
    resolve header k w = resolveStandard st fc addr := by
  rw [resolve, h]

theorem resolve_enhanced {header st addr : List Char} (h : splitFields header = [st, addr]) (k : DataKind) (w : Bool) :
    resolve header k w = resolveEnhanced st addr k w := by
  rw [resolve, h]

theorem resolve_otherCount {header : List Char} (h₂ : (splitFields header).length ≠ 2) (h₃ : (splitFields header).length ≠ 3)
    (k : DataKind) (w : Bool) : resolve header k w = .error .malformedHeader := by
  unfold resolve
  split
  · next h => simp [h] at h₃
  · next h => simp [h] at h₂
  · rfl

/-- A header of the Enhanced form whose fields parse: what is left open is the function code. -/
theorem resolve_of_enhancedFields {st addr : List Char} {s : Byte} {t : RegisterType} {a : Word} (hst : ';' ∉ st) (haddr : ';' ∉ addr)
    (hs : byteField st = some s) (ha : addressField addr = some (t, a)) (k : DataKind) (w : Bool) :
    resolve (st ++ ';' :: addr) k w = (inferFunctionCode t k w).map fun f => ⟨s, f, a⟩ := by
  rw [resolve_enhanced (splitFields_two hst haddr), resolveEnhanced, hs, ha]

theorem isSingleRegister_iff {k : DataKind} : isSingleRegister k = true ↔ k = .int16 ∨ k = .uint16 := by
  cases k <;> decide

theorem inferFunctionCode_holding_write (k : DataKind) :
    inferFunctionCode .holdingRegister k true = .ok (if k = .int16 ∨ k = .uint16 then 0x06#8 else 0x10#8) := by
  simp [inferFunctionCode, isSingleRegister_iff]

/-! ## The hand-off and the run of the packer -/

theorem writeRegister_opStation (b : Byte) (s : State) :
    writeRegister .opStation b.toNat s = { s with op := { s.op with station := b } } := by
  simp [writeRegister]

theorem writeRegister_opFc (b : Byte) (s : State) : writeRegister .opFc b.toNat s = { s with op := { s.op with fc := b } } := by
  simp [writeRegister]

theorem writeRegister_opAddr (a : Word) (s : State) : writeRegister .opAddr a.toNat s = { s with op := { s.op with addr := a } } := by
  simp [writeRegister]

/-- Three register writes, then the write to `CMD`, which reads the function code just handed over. -/
theorem run_headerMoves {c : FrameCodec} {h : AddressHeader} {s : State} (hmoves : s.moves = headerMoves c h) :
    Host.Core.run Sys2Proof.core 4 s =
      exec (decodeOpcode h.functionCode (mnemonicOpcode (packer c)))
        { s with op := { s.op with station := h.station, fc := h.functionCode, addr := h.address }, moves := [] } := by
  rw [run_succ (step_writeReg hmoves (by decide) h.station.isLt), writeRegister_opStation,
    run_succ (step_writeReg rfl (by decide) h.functionCode.isLt), writeRegister_opFc,
    run_succ (step_writeReg rfl (by decide) h.address.isLt), writeRegister_opAddr,
    run_one, step_start rfl (startedOpcode_writeCmd _)]
  rfl

theorem placeRequest_error {header : List Char} {k : DataKind} {w : Bool} {e : AddressError} (he : resolve header k w = .error e)
    (c : FrameCodec) (s : State) : placeRequest c header k w s = s := by
  rw [placeRequest, requestMoves_error he, List.append_nil]

theorem run_placeRequest {header : List Char} {k : DataKind} {w : Bool} {h : AddressHeader} {s : State}
    (hr : resolve header k w = .ok h) (hidle : s.moves = []) (c : FrameCodec) :
    Host.Core.run Sys2Proof.core 4 (placeRequest c header k w s) =
      exec (decodeOpcode h.functionCode (mnemonicOpcode (packer c)))
        { s with op := { s.op with station := h.station, fc := h.functionCode, addr := h.address } } := by
  have hmoves : (placeRequest c header k w s).moves = headerMoves c h := by
    rw [placeRequest, requestMoves_ok hr, hidle, List.nil_append]
  rw [run_headerMoves hmoves, placeRequest, ← hidle]

end Sys2Proof.Machine

namespace Sys2Proof.Proofs

open Sys2Proof.Machine

/-- Settles O56: the logical reading is tried first and the plain one is what is left when its first character, its digits or its range
fail; a value of at most 65535 has five digits or fewer. -/
theorem logicalAddressIsOneBased : Obligations.LogicalAddressIsOneBased := by
  refine ⟨fun p hp ds v hds h₁ h₂ => ?_, fun c ds hfails => addressField_of_plain ?_, fun v hv => decimal_toDigits (by decide) (by omega)⟩
  · have htype : logicalPrefix p.1 = some p.2 := by
      revert p
      decide
    exact addressField_of_logical (logicalAddress_eq_some htype hds h₁ h₂)
  · obtain hc | hds := hfails
    · exact logicalAddress_eq_none_of_logicalPrefix (logicalPrefix_eq_none hc) ds
    · refine logicalAddress_eq_none_of_digits (fun v hv => ?_) c
      simpa [hv] using hds

/-- Settles O57: the split undoes the join, as the library proves of its own split, and `resolve` branches on the number of fields. -/
theorem fieldCountSelectsTheForm : Obligations.FieldCountSelectsTheForm :=
  ⟨fun _ => splitFields_intercalate, fun _ k w =>
    ⟨fun _ _ _ h => resolve_standard h k w, fun _ _ h => resolve_enhanced h k w, fun h₂ h₃ => resolve_otherCount h₂ h₃ k w⟩⟩

/-- Settles O58, by the register type: the row of R178's table for a type is computed, except for the write to a holding register, which asks for
the data kind. -/
theorem enhancedFormInfersTheFunctionCode : Obligations.EnhancedFormInfersTheFunctionCode := by
  intro st addr k s t a hst haddr hs ha
  have hresolve := resolve_of_enhancedFields hst haddr hs ha k
  simp only [hresolve]
  refine ⟨?coil, ?discreteInput, ?holdingRegister, ?inputRegister⟩
  case coil | discreteInput | inputRegister =>
    rintro rfl
    exact ⟨rfl, rfl⟩
  case holdingRegister =>
    rintro rfl
    refine ⟨rfl, fun hsingle => ?_, fun h₁ h₂ => ?_⟩
    · rw [inferFunctionCode_holding_write, if_pos hsingle]
      rfl
    · rw [inferFunctionCode_holding_write, if_neg (not_or.2 ⟨h₁, h₂⟩)]
      rfl

/-- Settles O59: the opcode paired with a codec is that of its packer. -/
theorem resolvedRequestRunsThePacker : Obligations.ResolvedRequestRunsThePacker := by
  intro p hp header k w s
  have hopcode : p.2 = mnemonicOpcode (packer p.1) := by
    simp only [List.mem_cons, List.not_mem_nil, or_false] at hp
    obtain rfl | rfl := hp <;> rfl
  rw [hopcode]
  exact ⟨fun _ hr hidle => run_placeRequest hr hidle p.1, fun _ he => placeRequest_error he p.1 s⟩

end Sys2Proof.Proofs
end

section
/-! PROOFS. The exceptions family: what a command leaves in the buffers and in the results when it ends well and when it ends in an error
(60_exceptions.md R193 to R197), and the idle block (R205). -/

namespace Sys2Proof.Machine

open Sys2Proof.Claims

/-! ## What an ending stores -/

/-- `u` differs from `s` in the buffers only below the lengths that `u` holds. -/
structure StoresBelowLengths (s u : State) : Prop where
  obuf_read : ∀ a, u.res.olen.toNat ≤ a → Memory.read u.obuf a = Memory.read s.obuf a
  vbuf_read : ∀ a, u.res.vcnt.toNat ≤ a → Memory.read u.vbuf a = Memory.read s.vbuf a

theorem StoresBelowLengths.of_buffers_eq {s u : State} (hobuf : u.obuf = s.obuf) (hvbuf : u.vbuf = s.vbuf) : StoresBelowLengths s u :=
  ⟨fun _ _ => by rw [hobuf], fun _ _ => by rw [hvbuf]⟩

theorem storesBelowLengths_emit {bytes : List Byte} (hlength : bytes.length < 2 ^ 32) (s : State) : StoresBelowLengths s (emit bytes s) := by
  refine ⟨fun a ha => Memory.read_writeSeq_outside _ _ ?_, fun _ _ => rfl⟩
  rwa [emit_res, BitVec.toNat_ofNat, Nat.mod_eq_of_lt hlength] at ha

theorem storesBelowLengths_emitv {entries : List Word} (hlength : entries.length < 2 ^ 32) (s : State) :
    StoresBelowLengths s (emitv entries s) := by
  refine ⟨fun _ _ => rfl, fun a ha => Memory.read_writeSeq_outside _ _ ?_⟩
  rwa [emitv_res, BitVec.toNat_ofNat, Nat.mod_eq_of_lt hlength] at ha

theorem StoresBelowLengths.setResults {i : Instr} {f : Results → Results} {s u : State} (h : StoresBelowLengths s u)
    (hf : Fills i u.res (f u.res)) : StoresBelowLengths s (setResults f u) where
  obuf_read a ha := h.obuf_read a (by rwa [setResults_res, hf.olen_eq] at ha)
  vbuf_read a ha := h.vbuf_read a (by rwa [setResults_res, hf.vcnt_eq] at ha)

/-- The lengths are 32 bits wide and an output comes from a 16-bit number of input bytes, so a length says how much was stored. -/
theorem Ends.storesBelowLengths {i : Instr} {s t : State} (h : Ends i s t) : StoresBelowLengths s t := by
  have hilen := s.op.ilen.isLt
  cases h with
  | raised => exact .of_buffers_eq rfl rfl
  | filled fills => exact .setResults (.of_buffers_eq rfl rfl) fills
  | emitted _ length_le fills => exact (storesBelowLengths_emit (by omega) s).setResults fills
  | entered _ length_le fills => exact (storesBelowLengths_emitv (by omega) s).setResults fills

/-! ## The status of an ending -/

/-- An operation that ends well leaves `STATUS` at `OK`, so every other status was raised. -/
theorem Ends.eq_raise_of_status_ne_ok {i : Instr} {s t : State} (h : Ends i s t) (hok : s.res.status = .ok) (hne : t.res.status ≠ .ok) :
    ∃ kind ∈ statusesOf i, t = raise kind s := by
  cases h with
  | raised listed => exact ⟨_, listed, rfl⟩
  | filled fills => exact absurd (fills.status_eq.trans hok) hne
  | emitted _ _ fills => exact absurd (fills.status_eq.trans hok) hne
  | entered _ _ fills => exact absurd (fills.status_eq.trans hok) hne

/-- The commands whose row of 60_exceptions.md R193 leaves out `OK`, the two unsupported forms and the illegal opcodes, always fail. -/
theorem failsWith_of_ok_not_listed {i : Instr} (h : .ok ∉ statusesOf i) (s : State) : ∃ kind ∈ statusesOf i, FailsWith i s kind := by
  cases i with
  | rtuBuildUnsupported =>
    by_cases hin : InRange s
    · exact ⟨.unsupportedFunctionCode, by decide, rtuForm_unsupported.failsWith_of_error hin rfl⟩
    · exact ⟨.range, by decide, rtuForm_unsupported.failsWith_range hin⟩
  | tcpBuildReqUnsupported =>
    by_cases hin : InRange s
    · exact ⟨.unsupportedFunctionCode, by decide, tcpForm_unsupported.failsWith_of_error hin rfl⟩
    · exact ⟨.range, by decide, tcpForm_unsupported.failsWith_range hin⟩
  | illegalOp00 | illegalOp0A0B | illegalOp0C0F | illegalOp101F | illegalOp203F | illegalOp407F | illegalOp80FF =>
    exact ⟨.illegalOp, List.mem_singleton_self _, failsWith_of_exec_raise (exec_of_not_operation rfl s)⟩
  | crc16 | crcValidate | rtuBuildFc01 | rtuBuildFc02 | rtuBuildFc03 | rtuBuildFc04 | rtuBuildFc05 | rtuBuildFc06 | rtuBuildFc0F
  | rtuBuildFc10 | rtuParse | tcpBuildReqFc01 | tcpBuildReqFc02 | tcpBuildReqFc03 | tcpBuildReqFc04 | tcpBuildReqFc05 | tcpBuildReqFc06
  | tcpBuildReqFc0F | tcpBuildReqFc10 | tcpBuildResp | tcpParse | getBits | getRegs => exact absurd List.mem_cons_self h

/-! ## The operations -/

/-- Every command that is no illegal opcode is a body run by `operation`, which tests `OP_ILEN` first (60_exceptions.md R194). -/
theorem exists_body_of_isOperation {i : Instr} (h : isOperation i = true) (s : State) :
    ∃ body, exec i s = operation (opcodeOf i) body s := by
  cases i with
  | illegalOp00 | illegalOp0A0B | illegalOp0C0F | illegalOp101F | illegalOp203F | illegalOp407F | illegalOp80FF => cases h
  | crc16 | crcValidate | rtuBuildFc01 | rtuBuildFc02 | rtuBuildFc03 | rtuBuildFc04 | rtuBuildFc05 | rtuBuildFc06 | rtuBuildFc0F
  | rtuBuildFc10 | rtuBuildUnsupported | rtuParse | tcpBuildReqFc01 | tcpBuildReqFc02 | tcpBuildReqFc03 | tcpBuildReqFc04
  | tcpBuildReqFc05 | tcpBuildReqFc06 | tcpBuildReqFc0F | tcpBuildReqFc10 | tcpBuildReqUnsupported | tcpBuildResp | tcpParse | getBits
  | getRegs => exact ⟨_, rfl⟩

end Sys2Proof.Machine

namespace Sys2Proof.Proofs

open Sys2Proof.Machine Sys2Proof.Claims

/-- Settles O42: an ending stores its output at index 0 and puts the length stored into `R_OLEN` or `R_VCNT`; the start of the command stores
nothing. -/
theorem commandsStoreOnlyTheirOutput : Obligations.CommandsStoreOnlyTheirOutput := by
  intro i s t h
  have hstores := (ends_of_exec h).storesBelowLengths
  exact ⟨hstores.obuf_read, hstores.vbuf_read⟩

/-- Settles O43: the only ending that is not `OK` is the error entry, after the start that cleared the results. -/
theorem errorsLeaveOnlyStatus : Obligations.ErrorsLeaveOnlyStatus := by
  intro i s t h hne
  obtain ⟨kind, -, rfl⟩ := (ends_of_exec h).eq_raise_of_status_ne_ok rfl hne
  exact ⟨rfl, rfl, rfl⟩

/-- Settles O44: an error is one that the row lists; `OK` either stands in the row, or the command always fails. -/
theorem operationsEndWithTheirOwnStatuses : Obligations.OperationsEndWithTheirOwnStatuses := by
  intro i s t h
  by_cases hok : t.res.status = .ok
  · rw [hok]
    by_contra hnot
    obtain ⟨kind, hlisted, hfails⟩ := failsWith_of_ok_not_listed hnot s
    have hkind : kind = .ok := (status_of_failsWith hfails h).symm.trans hok
    exact hnot (hkind ▸ hlisted)
  · obtain ⟨kind, hlisted, rfl⟩ := (ends_of_exec h).eq_raise_of_status_ne_ok rfl hok
    exact hlisted

/-- Settles O10. -/
theorem idleBlockHoldsItsState : Obligations.IdleBlockHoldsItsState := fun _ => step_idle

/-- Settles O39: `operation` tests `OP_ILEN` before it runs the body, whatever the body is. -/
theorem inputTooLongIsRangeFirst : Obligations.InputTooLongIsRangeFirst := by
  intro i s hi hin
  obtain ⟨body, hexec⟩ := exists_body_of_isOperation hi s
  exact failsWith_range hexec hin

/-- Settles O40. -/
theorem everyCommandEndsInANextState : Obligations.EveryCommandEndsInANextState :=
  fun i s => (exec_ends i s).imp fun _ => And.left

end Sys2Proof.Proofs
end

section
/-! PROOFS. The reset family: what a host move that starts no command leaves of the results (70_reset_and_hazards.md R213), and the reset move
(R210). -/

namespace Sys2Proof.Machine

open Sys2Proof.Claims

/-! ## The results and what the host finds of them -/

/-- `t` holds the results and the output of `s`, and the counts that are keys of the free values. -/
structure KeepsResults (s t : State) : Prop where
  res_eq : t.res = s.res
  cmd_eq : t.cmd = s.cmd
  obuf_eq : t.obuf = s.obuf
  vbuf_eq : t.vbuf = s.vbuf
  resetCount_eq : t.resetCount = s.resetCount
  commandCount_eq : t.commandCount = s.commandCount

theorem KeepsResults.outputBytes_eq {s t : State} (h : KeepsResults s t) : outputBytes t = outputBytes s := by
  have hbyte : obufByte t = obufByte s := by
    funext i
    rw [obufByte, obufByte, h.res_eq, h.obuf_eq, h.resetCount_eq, h.commandCount_eq]
  rw [outputBytes, outputBytes, h.res_eq, hbyte]

theorem KeepsResults.outputEntries_eq {s t : State} (h : KeepsResults s t) : outputEntries t = outputEntries s := by
  have hentry : vbufEntry t = vbufEntry s := by
    funext i
    rw [vbufEntry, vbufEntry, h.res_eq, h.vbuf_eq, h.resetCount_eq, h.commandCount_eq]
  rw [outputEntries, outputEntries, h.res_eq, hentry]

theorem writeRegister_cmd_of_ne {r : Reg} (hr : r ≠ .cmd) (v : Nat) (s : State) : (writeRegister r v s).cmd = s.cmd := by
  cases r
  case cmd => exact absurd rfl hr
  all_goals rfl

theorem keepsResults_writeRegister {r : Reg} (hr : r ≠ .cmd) (v : Nat) (s : State) : KeepsResults s (writeRegister r v s) :=
  ⟨writeRegister_res r v s, writeRegister_cmd_of_ne hr v s, writeRegister_obuf r v s, writeRegister_vbuf r v s,
    writeRegister_resetCount r v s, writeRegister_commandCount r v s⟩

theorem keepsResults_answer (v : BitVec 32) (s : State) : KeepsResults s (answer v s) := ⟨rfl, rfl, rfl, rfl, rfl, rfl⟩

/-! ## Accesses that end in a next state -/

theorem eq_of_atIndex_next {space : Space} {index : Nat} {t u : State} (h : atIndex space index t = .next u) : u = t := by
  rcases atIndex_cases space index t with ⟨_, hnext⟩ | ⟨_, hrefused⟩
  · rw [hnext] at h
    cases h
    rfl
  · rw [hrefused] at h
    cases h

theorem hostWriteRegister_next {number value : Nat} {s t : State} (h : hostWriteRegister number value s = .next t) :
    ∃ r, regOfNumber number = some r ∧ value < 2 ^ regWidth r ∧ t = writeRegister r value s := by
  unfold hostWriteRegister at h
  split at h
  · cases h
  · next r hr =>
    split at h
    · next hfits =>
      cases h
      exact ⟨r, hr, hfits, rfl⟩
    · cases h

theorem hostReadRegister_next {number : Nat} {s t : State} (h : hostReadRegister number s = .next t) :
    ∃ r, regOfNumber number = some r ∧ t = answer (readRegister s r) s := by
  unfold hostReadRegister at h
  split at h
  · cases h
  · next r hr =>
    cases h
    exact ⟨r, hr, rfl⟩

/-- A register write that starts no command, of a value that fits, is to a register other than `CMD`. -/
theorem ne_cmd_of_startedOpcode_eq_none {number value : Nat} {r : Reg} (hm : startedOpcode (.writeReg number value) = none)
    (hr : regOfNumber number = some r) (hfits : value < 2 ^ regWidth r) : r ≠ .cmd := by
  rintro rfl
  have hstarts : startedOpcode (.writeReg number value) = some (BitVec.ofNat 8 value) := if_pos ⟨hr, hfits⟩
  rw [hm] at hstarts
  cases hstarts

/-- The only accesses that touch the results or the output are the writes to `CMD` and the reset. -/
theorem hostAccess_keepsResults {m : HostMove} {s t : State} (hm : startedOpcode m = none) (hreset : m ≠ .reset)
    (h : hostAccess m s = .next t) : KeepsResults s t := by
  cases m with
  | writeReg number value =>
    obtain ⟨r, hr, hfits, rfl⟩ := hostWriteRegister_next h
    exact keepsResults_writeRegister (ne_cmd_of_startedOpcode_eq_none hm hr hfits) value s
  | readReg number =>
    obtain ⟨r, -, rfl⟩ := hostReadRegister_next h
    exact keepsResults_answer _ s
  | writeIbuf | writeObuf | writeVbuf =>
    cases eq_of_atIndex_next h
    exact ⟨rfl, rfl, rfl, rfl, rfl, rfl⟩
  | readIbuf | readObuf | readVbuf =>
    cases eq_of_atIndex_next h
    exact keepsResults_answer _ s
  | reset => exact absurd rfl hreset

/-! ## Reset -/

/-- Whatever the state before, a reset leaves the registers of the reset state. -/
@[simp] theorem readRegister_hostReset (s : State) (r : Reg) : readRegister (hostReset s) r = readRegister State.reset r := by
  cases r <;> rfl

theorem step_reset {s : State} {rest : List HostMove} (h : s.moves = .reset :: rest) : step s = .next (hostReset (dropMoves rest s)) :=
  step_access h rfl

end Sys2Proof.Machine

namespace Sys2Proof.Proofs

open Sys2Proof.Machine Sys2Proof.Claims

/-- Settles O54: the step is an access, no access but a write to `CMD` and a reset touches the results, and what the host finds of the output
depends on nothing else. -/
theorem resultsLastUntilTheNextCommand : Obligations.ResultsLastUntilTheNextCommand := by
  intro s t m rest hmoves hm hreset hstep
  rw [step_access hmoves hm] at hstep
  have hkeeps : KeepsResults (dropMoves rest s) t := hostAccess_keepsResults hm hreset hstep
  exact ⟨hkeeps.res_eq, hkeeps.cmd_eq, hkeeps.outputBytes_eq, hkeeps.outputEntries_eq, hkeeps.obuf_eq, hkeeps.vbuf_eq⟩

/-- Settles O4: the registers after the reset move are those of the reset state, which read 0 (O1). -/
theorem hostResetFromAnyState : Obligations.HostResetFromAnyState := by
  intro s rest hmoves
  obtain ⟨hzero, -⟩ := resetRegistersReadZero
  exact ⟨_, step_reset hmoves, fun r => (readRegister_hostReset _ r).trans (hzero r), rfl, rfl, rfl, rfl, rfl⟩

end Sys2Proof.Proofs
end
